-- ==== Sys2Proof/Word.lean ====
section
/-! DEFINITION. The word types of the block (spec/00_scope.md R9: bit 0 is the least significant bit, words are unsigned). -/

namespace Sys2Proof

/-- A 32-bit word: a register value, a timing word, a pixel-pair word, bus data (R9). -/
abbrev Word := BitVec 32

/-- A 16-bit field: a line number, a timing period, a bus key (R38, R111, R126). -/
abbrev Half := BitVec 16

/-- The smallest unit of bus memory (R82). -/
abbrev Byte := BitVec 8

/-- A 12-bit colour: red 3:0, green 7:4, blue 11:8 (R118). -/
abbrev Colour := BitVec 12

end Sys2Proof
end

