-- ==== Sys2Proof/Config.lean ====
section
/-! DEFINITION. The parameters of the block (spec/00_scope.md R7), the sets of names they are indexed by,
and the free values: what the spec leaves open and no proof can see (opaque constants without a body). -/

namespace Sys2Proof

/-- Timing standard s: 0 = 640x480 at 60 Hz, 1 = 640x400 at 70 Hz (R13). -/
inductive Standard where
  | s0 | s1
deriving DecidableEq, Repr, Inhabited

/-- One value for each timing standard. -/
structure PerStd (α : Type) where
  s0 : α
  s1 : α
deriving DecidableEq, Repr

/-- The value of standard `s`. -/
@[simp] def PerStd.get {α : Type} (x : PerStd α) : Standard → α
  | .s0 => x.s0
  | .s1 => x.s1

/-- The four timing words of a line: word 0 = FP, 1 = SYNC, 2 = BP, 3 = VIS (R35). -/
inductive Slot where
  | fp | sync | bp | vis
deriving DecidableEq, Repr, Inhabited

/-- One value for each of the four words of a line. -/
structure Slots (α : Type) where
  fp : α
  sync : α
  bp : α
  vis : α
deriving DecidableEq, Repr

/-- The value of word `j`. -/
@[simp] def Slots.get {α : Type} (x : Slots α) : Slot → α
  | .fp => x.fp
  | .sync => x.sync
  | .bp => x.bp
  | .vis => x.vis

/-- The three categories of scan line: k = 0, 1, 2 (R13, R35). -/
inductive Category where
  | visible | porch | sync
deriving DecidableEq, Repr, Inhabited

/-- One value for each category. -/
structure Categories (α : Type) where
  visible : α
  porch : α
  sync : α
deriving DecidableEq, Repr

/-- The value of category `k`. -/
@[simp] def Categories.get {α : Type} (x : Categories α) : Category → α
  | .visible => x.visible
  | .porch => x.porch
  | .sync => x.sync

/-- The two scan-line buffers: BUF0 "even" and BUF1 "odd" (R51). -/
inductive BufId where
  | buf0 | buf1
deriving DecidableEq, Repr, Inhabited

/-- The buffer that is not `b`. -/
@[simp] def BufId.other : BufId → BufId
  | .buf0 => .buf1
  | .buf1 => .buf0

/-- The two bus masters (R3, R332). -/
inductive Master where
  | host | prod
deriving DecidableEq, Repr, Inhabited

/-- The agents whose steps interleave (R3): the block's own, the two bus masters' ports, and PROD's render loop. -/
inductive Agent where
  | tg | pop | dmaT | dmaP | seqT | seqP | hostBus | prodBus | prodLoop
deriving DecidableEq, Repr, Inhabited

/-- BUF_PAIRS, the pixel-pair words of a scan-line buffer: 320 (R7, from the source's §8; R86 decodes exactly 320). -/
abbrev bufPairs : Nat := 320

/-- A region of the bus space: its first address and its size in bytes. -/
structure Region where
  base : Nat
  bytes : Nat
deriving DecidableEq, Repr

/-- A region ends inside the 32-bit bus space (R80). -/
def Region.inSpace (r : Region) : Bool := decide (r.base + r.bytes ≤ 2 ^ 32)

/-- Two regions have no byte in common. -/
def Region.apart (r q : Region) : Bool := decide (r.base + r.bytes ≤ q.base ∨ q.base + q.bytes ≤ r.base)

/-- The size of the register window, VID_BASE .. VID_BASE + 0xFFFF (R80). -/
abbrev windowBytes : Nat := 0x10000

/-- The size of FONT8: 256 glyphs by 8 rows (R7). -/
abbrev font8Bytes : Nat := 2048

/-- The size of FONT16: 256 glyphs by 16 rows (R7). -/
abbrev font16Bytes : Nat := 4096

/-- Where the window, the grid and the two font tables stand in the bus space. R80 places the font tables there and gives them no
base: FONT8_BASE and FONT16_BASE are the model's own parameters (DESIGN CHOICE, assumption 35). -/
structure Bases where
  /-- VID_BASE: bus address of the register window (R7). -/
  vidBase : Word
  /-- GRID_BASE: bus address of the glyph grid (R7). -/
  gridBase : Word
  /-- Bus address of the table FONT8. OWN, assumption 35. -/
  font8Base : Word
  /-- Bus address of the table FONT16. OWN, assumption 35. -/
  font16Base : Word
deriving DecidableEq, Repr, Inhabited

/-- The four regions lie in the bus space, apart from each other (R80), the grid of `gridBytes` bytes not null (R249), the window
word-aligned (R83). DEDUCED, assumption 5. -/
def Bases.fit (b : Bases) (gridBytes : Nat) : Bool :=
  let window : Region := { base := b.vidBase.toNat, bytes := windowBytes }
  let grid : Region := { base := b.gridBase.toNat, bytes := gridBytes }
  let font8 : Region := { base := b.font8Base.toNat, bytes := font8Bytes }
  let font16 : Region := { base := b.font16Base.toNat, bytes := font16Bytes }
  decide (grid.base ≠ 0) && decide (window.base % 4 = 0) &&
  window.inSpace && grid.inSpace && font8.inSpace && font16.inSpace &&
  grid.apart window && font8.apart window && font16.apart window &&
  font8.apart grid && font16.apart grid && font8.apart font16

/-- The parameters of R7. A configuration is accepted when `Params.ok` (Machine/Mode.lean) holds (R8).
PALETTE_INIT and the font tables are plain tables. `bufPairs` is the one parameter that is not a field. -/
structure Params extends Bases where
  /-- H_VIS, H_FP, H_SYNC, H_BP: horizontal lengths in pixels, by timing word. -/
  hPixels : Slots Nat
  /-- V_VIS[s]: visible lines of timing standard s. -/
  vVis : PerStd Nat
  /-- V_FP[s]: vertical front porch in lines. -/
  vFp : PerStd Nat
  /-- V_SYNC[s]: vertical sync in lines. -/
  vSync : PerStd Nat
  /-- V_BP[s]: vertical back porch in lines. -/
  vBp : PerStd Nat
  /-- CPP: system-clock cycles per pixel. -/
  cpp : Nat
  /-- SYS_CLK_HZ: the system clock. -/
  sysClkHz : Nat
  /-- CORR[s][j]: the signed correction of timing word j, in cycles. -/
  corr : PerStd (Slots Int)
  /-- HS_ACTIVE[s]: pin level of an asserted horizontal sync pulse. -/
  hsActive : PerStd Bool
  /-- VS_ACTIVE[s]: pin level of an asserted vertical sync pulse. -/
  vsActive : PerStd Bool
  /-- TFIFO_DEPTH. -/
  tfifoDepth : Nat
  /-- PFIFO_DEPTH. -/
  pfifoDepth : Nat
  /-- POP_LAT: cycles from trigger to first pixel. -/
  popLat : Nat
  /-- PALETTE_INIT: the 256 palette entries. -/
  paletteInit : Vector Colour 256
  /-- FONT8: the bytes of the table at `font8Base` until they are written over. -/
  font8 : Vector Byte font8Bytes
  /-- FONT16: the bytes of the table at `font16Base` until they are written over. -/
  font16 : Vector Byte font16Bytes
  /-- ACCEPTED_MODES: the MODE values a mode write accepts. -/
  acceptedModes : List Word
  /-- MAX_COLS of the grid bound. -/
  maxCols : Nat
  /-- MAX_ROWS of the grid bound. -/
  maxRows : Nat
deriving DecidableEq, Repr

namespace Config

/-! ### Free values

Each is opaque and has no body: a claim that holds of the model holds whatever they are. -/

/-- OPEN parameter CORR (R7): the draw behind `corrOf`. Assumption 3. -/
opaque corrDraw : Standard → Slot → Nat

/-- OPEN parameter PALETTE_INIT (R7, R36). Assumption 4. -/
opaque paletteEntry : Nat → Colour

/-- OPEN parameter FONT8 (R7), byte G*8 + row. Assumption 4. -/
opaque font8Byte : Nat → Byte

/-- OPEN parameter FONT16 (R7), byte G*16 + row. Assumption 4. -/
opaque font16Byte : Nat → Byte

/-- OPEN parameter POP_LAT (R7, R180). Assumption 4. -/
opaque popLat : Nat

/-- OPEN parameters VID_BASE and GRID_BASE (R7), and the bases of the font tables: the draw behind `bases`. Assumptions 4 and 35. -/
opaque basesDraw : Bases

/-- The contents of BUFb.PIX[i] at reset: any value (R55). Assumption 7. -/
opaque resetPixel : BufId → Nat → Word

/-- What a byte of bus memory that is in no font table reads as while nothing has been written to it. Assumption 8. -/
opaque unwrittenByte : Nat → Byte

/-- Which agent is picked at the n-th free choice: any interleaving (R11, R327). Assumption 9. -/
opaque nextAgent : Nat → Agent

/-! ### The parameters of the machine after reset

The values are R7's defaults; those R7 marks [gk] are general knowledge, PRESUMED (assumption 2). -/

/-- H_FP 16, H_SYNC 96, H_BP 48 [gk] and H_VIS 640 (R7). -/
def hPixels : Slots Nat := { fp := 16, sync := 96, bp := 48, vis := 640 }

/-- CPP 5 [gk] (R7). -/
def cpp : Nat := 5

/-- CORR[s][j] of the machine after reset: any correction that R8 admits, and no other.
The period H_j*CPP + CORR[s][j] is 1 + draw mod 65535, which takes every value 1..65535. Assumption 3. -/
def corrOf (s : Standard) (j : Slot) : Int :=
  1 + ((corrDraw s j % 65535 : Nat) : Int) - ((hPixels.get j * cpp : Nat) : Int)

/-- The four corrections of standard `s`. -/
def corrSlots (s : Standard) : Slots Int :=
  { fp := corrOf s .fp, sync := corrOf s .sync, bp := corrOf s .bp, vis := corrOf s .vis }

/-- MAX_COLS * MAX_ROWS cells of two bytes (R122) with the defaults 80 and 60. -/
def gridBytes : Nat := 9600

/-- The bases of the machine after reset: the draw where it fits, so every layout that fits is one it may take and no other is; where
it does not fit, a layout that does. Assumptions 4 and 35. -/
def bases : Bases :=
  if basesDraw.fit gridBytes then basesDraw
  else { vidBase := 0, gridBase := 0x10000, font8Base := 0x20000, font16Base := 0x30000 }

/-- The parameters of the machine after reset. -/
def params : Params where
  toBases := bases
  hPixels := hPixels
  vVis := { s0 := 480, s1 := 400 }
  vFp := { s0 := 10, s1 := 12 }
  vSync := { s0 := 2, s1 := 2 }
  vBp := { s0 := 33, s1 := 35 }
  cpp := cpp
  sysClkHz := 126000000
  corr := { s0 := corrSlots .s0, s1 := corrSlots .s1 }
  hsActive := { s0 := false, s1 := false }
  vsActive := { s0 := false, s1 := false }
  tfifoDepth := 8
  pfifoDepth := 8
  popLat := popLat
  paletteInit := ⟨⟨(List.range 256).map paletteEntry⟩, by simp⟩
  font8 := ⟨⟨(List.range font8Bytes).map font8Byte⟩, by simp⟩
  font16 := ⟨⟨(List.range font16Bytes).map font16Byte⟩, by simp⟩
  acceptedModes := [0x0, 0x1]
  maxCols := 80
  maxRows := 60

end Config

end Sys2Proof
end

