-- ==== Sys2Proof/Machine/Operands.lean ====
section
/-! DEFINITION. The fields of every word the block takes: TW, LEN, PAIR, MODE, CTRL, the colour, the attribute,
the cell, the font byte and the bus key (spec/30_encoding.md R111 to R126). Each field is pulled out here, once. -/

namespace Sys2Proof

/-- A bit as the low bit of a word. -/
def bitWord (b : Bool) : Word := (BitVec.ofBool b).setWidth 32

/-! ### TW, the timing word (R111) -/

/-- `TW(h, v, t, p) = (p << 16) | (t << 2) | (v << 1) | h` (R150). -/
def twWord (h v t : Bool) (p : Half) : Word :=
  (p.setWidth 32 <<< 16) ||| (bitWord t <<< 2) ||| (bitWord v <<< 1) ||| bitWord h

/-- HS, bit 0. -/
def twHs (w : Word) : Bool := w.getLsbD 0

/-- VS, bit 1. -/
def twVs (w : Word) : Bool := w.getLsbD 1

/-- TRIG, bit 2. -/
def twTrig (w : Word) : Bool := w.getLsbD 2

/-- The reserved bits 15:3, which must be 0. -/
def twReserved (w : Word) : BitVec 13 := w.extractLsb' 3 13

/-- PERIOD, bits 31:16. -/
def twPeriod (w : Word) : Half := w.extractLsb' 16 16

/-- A timing word is legal when its reserved bits are 0 and its PERIOD is not (R112). -/
def twLegal (w : Word) : Bool := decide (twReserved w = 0) && decide (twPeriod w ≠ 0)

/-! ### LEN and PAIR, the PFIFO words (R113, R117) -/

/-- N, bits 15:0: the pixel-pair count minus one. -/
def lenN (w : Word) : Half := w.extractLsb' 0 16

/-- Bits 31:16, ignored. -/
def lenIgnored (w : Word) : Half := w.extractLsb' 16 16

/-- The LEN word with the given N and ignored bits. -/
def lenWord (n ign : Half) : Word := ign ++ n

/-- Pixel 0, bits 11:0: the left pixel. -/
def pairPix0 (w : Word) : Colour := w.extractLsb' 0 12

/-- Bits 15:12, ignored. -/
def pairIgnLo (w : Word) : BitVec 4 := w.extractLsb' 12 4

/-- Pixel 1, bits 27:16: the right pixel. -/
def pairPix1 (w : Word) : Colour := w.extractLsb' 16 12

/-- Bits 31:28, ignored. -/
def pairIgnHi (w : Word) : BitVec 4 := w.extractLsb' 28 4

/-- The PAIR word with the given colours and ignored bits. -/
def pairWord (pix0 : Colour) (ignLo : BitVec 4) (pix1 : Colour) (ignHi : BitVec 4) : Word :=
  (ignHi ++ pix1) ++ (ignLo ++ pix0)

/-- The PAIR word a colour pair is stored as: `(zext c1 << 16) | zext c0` (R117, R290). -/
def colourPair (c0 c1 : Colour) : Word := (c1.setWidth 32 <<< 16) ||| c0.setWidth 32

/-! ### MODE and CTRL (R115, R116) -/

/-- TIMING, bit 0 of MODE. -/
def modeTiming (m : Word) : Bool := m.getLsbD 0

/-- FONT, bit 1 of MODE. -/
def modeFont (m : Word) : Bool := m.getLsbD 1

/-- COLS, bit 2 of MODE. -/
def modeCols (m : Word) : Bool := m.getLsbD 2

/-- The reserved bits 31:3 of MODE. -/
def modeReserved (m : Word) : BitVec 29 := m.extractLsb' 3 29

/-- EN, bit 0 of CTRL. -/
def ctrlEn (v : Word) : Bool := v.getLsbD 0

/-- The reserved bits 31:1 of CTRL. -/
def ctrlReserved (v : Word) : BitVec 31 := v.extractLsb' 1 31

/-! ### The grid cell, the font byte and the CLUT index (R119 to R122) -/

/-- The glyph index: bits 7:0 of the cell (R122). -/
def cellGlyph (cell : Half) : Byte := cell.extractLsb' 0 8

/-- The 7-bit attribute: bits 14:8 of the cell; BLINK, bit 15, is not used (R119, R301). -/
def cellAttr (cell : Half) : BitVec 7 := cell.extractLsb' 8 7

/-- FG, bits 3:0 of the attribute. -/
def attrFg (a : BitVec 7) : BitVec 4 := a.extractLsb' 0 4

/-- BG, bits 6:4 of the attribute. -/
def attrBg (a : BitVec 7) : BitVec 3 := a.extractLsb' 4 3

/-- Pattern k of a glyph row, `p_k = g[7-2k : 6-2k]`, k = 0 the leftmost (R121). -/
def fontPattern (g : Byte) (k : Nat) : BitVec 2 := g.extractLsb' (6 - 2 * k) 2

/-- The doubled pixel k of a glyph row in 40 columns: 0b11 if `g[7-k]` is set, else 0b00 (R297). -/
def fontDouble (g : Byte) (k : Nat) : BitVec 2 := if g.getLsbD (7 - k) then 3 else 0

/-- The CLUT index `attr*4 + p`, that is `{attr[6:0], p}` (R120). -/
def clutIndex (a : BitVec 7) (p : BitVec 2) : BitVec 9 := a ++ p

/-! ### The bus key (R126) -/

/-- `key = (offset[15:2] << 2) | W`. -/
def busKey (offset : Word) (write : Bool) : Half :=
  ((offset.extractLsb' 2 14).setWidth 16 <<< 2) ||| (BitVec.ofBool write).setWidth 16

/-- The index of a pixel or CLUT window: key[10:2]. -/
def keyIndex9 (key : Half) : BitVec 9 := key.extractLsb' 2 9

/-- The index of the palette window: key[9:2]. -/
def keyIndex8 (key : Half) : BitVec 8 := key.extractLsb' 2 8

/-- TBUF's category index: key[5:4]. -/
def keyTbufK (key : Half) : BitVec 2 := key.extractLsb' 4 2

/-- TBUF's word index: key[3:2]. -/
def keyTbufJ (key : Half) : BitVec 2 := key.extractLsb' 2 2

/-- The category that index k names; 3 names none (R35, R86). -/
def categoryOfIndex (k : BitVec 2) : Option Category :=
  if k = 0 then some .visible else if k = 1 then some .porch else if k = 2 then some .sync else none

/-- The timing word that index j names (R35). -/
def slotOfIndex (j : BitVec 2) : Slot :=
  if j = 0 then .fp else if j = 1 then .sync else if j = 2 then .bp else .vis

/-- A category's index (R35). -/
def Category.index : Category → BitVec 2
  | .visible => 0
  | .porch => 1
  | .sync => 2

/-- A timing word's index (R35). -/
def Slot.index : Slot → BitVec 2
  | .fp => 0
  | .sync => 1
  | .bp => 2
  | .vis => 3

/-- The word after word j of a line, none after word 3 (R201). -/
def Slot.next : Slot → Option Slot
  | .fp => some .sync
  | .sync => some .bp
  | .bp => some .vis
  | .vis => none

end Sys2Proof
end

