-- ==== Sys2Proof/Syntax.lean ====
section
/-! DEFINITION. The instructions: one constructor for each row of spec/opcode_table.json (30_encoding.md R127).
TW is executed by TG, LEN and PAIR by POP; every other row is an operation of a bus master.
Operands hold every bit the encoding gives the row, so that nothing of a word is lost; ranges are checked in WellFormed. -/

namespace Sys2Proof

/-- An instruction. `v` is a write's 32-bit data word (R126: a bus access is a key and, for a write, its data). -/
inductive Instr where
  /-- TW hs vs trig period (R111, R156). -/
  | tw (hs vs trig : Bool) (period : Half)
  /-- LEN n; `ign` is bits 31:16, which POP ignores (R113, R181). -/
  | len (n ign : Half)
  /-- PAIR pix0, pix1; `ignLo` is bits 15:12 and `ignHi` bits 31:28, which POP ignores (R117, R182). -/
  | pair (pix0 : Colour) (ignLo : BitVec 4) (pix1 : Colour) (ignHi : BitVec 4)
  | rdMode
  | wrMode (v : Word)
  | rdCtrl
  | wrCtrl (v : Word)
  | rdScanline
  | rdTimingLine
  | rdVisLines
  | rdTextDims
  | rdFbAddr
  | rdClash
  | rdNeedsMemory
  | rdBuf0Flag
  | wrBuf0Flag (v : Word)
  | rdBuf0Line
  | rdBuf0Len
  | rdBuf1Flag
  | wrBuf1Flag (v : Word)
  | rdBuf1Line
  | rdBuf1Len
  | rdBuf0Pix (i : BitVec 9)
  | wrBuf0Pix (i : BitVec 9) (v : Word)
  | rdBuf1Pix (i : BitVec 9)
  | wrBuf1Pix (i : BitVec 9) (v : Word)
  | rdPalette (i : BitVec 8)
  | rdClut (i : BitVec 9)
  | rdTbuf (k j : BitVec 2)
  | wrRoScanline (v : Word)
  | wrRoTimingLine (v : Word)
  | wrRoVisLines (v : Word)
  | wrRoTextDims (v : Word)
  | wrRoFbAddr (v : Word)
  | wrRoClash (v : Word)
  | wrRoNeedsMemory (v : Word)
  | wrRoBuf0Line (v : Word)
  | wrRoBuf0Len (v : Word)
  | wrRoBuf1Line (v : Word)
  | wrRoBuf1Len (v : Word)
  | wrRoPalette (i : BitVec 8) (v : Word)
  | wrRoClut (i : BitVec 9) (v : Word)
  | wrRoTbuf (k j : BitVec 2) (v : Word)
deriving DecidableEq, Repr

end Sys2Proof
end

