-- ==== Sys2Proof/WellFormed.lean ====
section
/-! DEFINITION. Which instructions the encodings admit: a period that is not 0 (30_encoding.md R111, R112),
a pixel index below BUF_PAIRS and a TBUF category below 3 (20_memory.md R86, R87).
The value checks of WR_CTRL and WR_BUF_FLAG are no matter of form: every data word is admitted and the meaning decides (R323). -/

namespace Sys2Proof

/-- A pixel index is mapped when it is below BUF_PAIRS; 320..511 are not (R86). -/
def pixelIndexOk (i : BitVec 9) : Bool := decide (i.toNat < bufPairs)

/-- A TBUF category index is mapped when it is 0, 1 or 2 (R86, R259). -/
def categoryIndexOk (k : BitVec 2) : Bool := decide (k.toNat < 3)

/-- The instruction is one that the encodings admit. -/
def Instr.wellFormed : Instr → Bool
  | .tw _ _ _ period => decide (period ≠ 0)
  | .rdBuf0Pix i => pixelIndexOk i
  | .wrBuf0Pix i _ => pixelIndexOk i
  | .rdBuf1Pix i => pixelIndexOk i
  | .wrBuf1Pix i _ => pixelIndexOk i
  | .rdTbuf k _ => categoryIndexOk k
  | .wrRoTbuf k _ _ => categoryIndexOk k
  | .len _ _ => true
  | .pair _ _ _ _ => true
  | .rdMode => true
  | .wrMode _ => true
  | .rdCtrl => true
  | .wrCtrl _ => true
  | .rdScanline => true
  | .rdTimingLine => true
  | .rdVisLines => true
  | .rdTextDims => true
  | .rdFbAddr => true
  | .rdClash => true
  | .rdNeedsMemory => true
  | .rdBuf0Flag => true
  | .wrBuf0Flag _ => true
  | .rdBuf0Line => true
  | .rdBuf0Len => true
  | .rdBuf1Flag => true
  | .wrBuf1Flag _ => true
  | .rdBuf1Line => true
  | .rdBuf1Len => true
  | .rdPalette _ => true
  | .rdClut _ => true
  | .wrRoScanline _ => true
  | .wrRoTimingLine _ => true
  | .wrRoVisLines _ => true
  | .wrRoTextDims _ => true
  | .wrRoFbAddr _ => true
  | .wrRoClash _ => true
  | .wrRoNeedsMemory _ => true
  | .wrRoBuf0Line _ => true
  | .wrRoBuf0Len _ => true
  | .wrRoBuf1Line _ => true
  | .wrRoBuf1Len _ => true
  | .wrRoPalette _ _ => true
  | .wrRoClut _ _ => true

end Sys2Proof
end

