-- ==== Sys2Proof/Decode.lean ====
section
/-! DEFINITION. The decoder, from the words and bus keys of spec/30_encoding.md (R110 to R128) and spec/opcode_table.json, and the encoder.
What reads a word is what names it: TG reads TW, POP reads LEN or PAIR by its phase, a bus access is read by its key (R110, R181, R182). -/

namespace Sys2Proof

/-- What is decoded: a word with the unit and phase that takes it, or a bus access with its key and data. -/
inductive Raw where
  /-- The oldest word of TFIFO, taken by TG (R156). -/
  | tw (w : Word)
  /-- The oldest word of PFIFO, taken by POP in phase Len (R181). -/
  | len (w : Word)
  /-- The oldest word of PFIFO, taken by POP in phase Pix (R182). -/
  | pair (w : Word)
  /-- A bus access: its key (R126) and its data; a read carries no data (assumption 24). -/
  | bus (key : Half) (data : Word)
deriving DecidableEq, Repr

/-- Why nothing is decoded. -/
inductive DecodeError where
  /-- A timing word with a reserved bit set (R112): TG raises TW_BAD. -/
  | twReserved (w : Word)
  /-- A key that matches no row, or an index past the end of its window (R87, R126): UNMAPPED. -/
  | unmapped (key : Half)
deriving DecidableEq, Repr

/-- The rows of format `bus` of the opcode table. -/
inductive BusRow where
  | rdMode
  | wrMode
  | rdCtrl
  | wrCtrl
  | rdScanline
  | rdTimingLine
  | rdVisLines
  | rdTextDims
  | rdFbAddr
  | rdClash
  | rdNeedsMemory
  | rdBuf0Flag
  | wrBuf0Flag
  | rdBuf0Line
  | rdBuf0Len
  | rdBuf1Flag
  | wrBuf1Flag
  | rdBuf1Line
  | rdBuf1Len
  | rdBuf0Pix
  | wrBuf0Pix
  | rdBuf1Pix
  | wrBuf1Pix
  | rdPalette
  | rdClut
  | rdTbuf
  | wrRoScanline
  | wrRoTimingLine
  | wrRoVisLines
  | wrRoTextDims
  | wrRoFbAddr
  | wrRoClash
  | wrRoNeedsMemory
  | wrRoBuf0Line
  | wrRoBuf0Len
  | wrRoBuf1Line
  | wrRoBuf1Len
  | wrRoPalette
  | wrRoClut
  | wrRoTbuf
deriving DecidableEq, Repr

/-- One row of the table: it matches a key when `key & mask = pattern` (R126). -/
structure RowPattern where
  mask : Half
  pattern : Half
  row : BusRow
deriving DecidableEq, Repr

/-- `key & mask = match` (R126). -/
def RowPattern.hits (r : RowPattern) (key : Half) : Bool := decide (key &&& r.mask = r.pattern)

/-- The control and status registers (R86: offsets 0x0000 to 0x0020). -/
def busTableControl : List RowPattern :=
  [ ⟨0xFFFF, 0x0000, .rdMode⟩,
    ⟨0xFFFF, 0x0001, .wrMode⟩,
    ⟨0xFFFF, 0x0004, .rdCtrl⟩,
    ⟨0xFFFF, 0x0005, .wrCtrl⟩,
    ⟨0xFFFF, 0x0008, .rdScanline⟩,
    ⟨0xFFFF, 0x000C, .rdTimingLine⟩,
    ⟨0xFFFF, 0x0010, .rdVisLines⟩,
    ⟨0xFFFF, 0x0014, .rdTextDims⟩,
    ⟨0xFFFF, 0x0018, .rdFbAddr⟩,
    ⟨0xFFFF, 0x001C, .rdClash⟩,
    ⟨0xFFFF, 0x0020, .rdNeedsMemory⟩ ]

/-- The buffer registers and pixel windows (R86: 0x0040 to 0x2FFC). -/
def busTableBuffers : List RowPattern :=
  [ ⟨0xFFFF, 0x0040, .rdBuf0Flag⟩,
    ⟨0xFFFF, 0x0041, .wrBuf0Flag⟩,
    ⟨0xFFFF, 0x0044, .rdBuf0Line⟩,
    ⟨0xFFFF, 0x0048, .rdBuf0Len⟩,
    ⟨0xFFFF, 0x0050, .rdBuf1Flag⟩,
    ⟨0xFFFF, 0x0051, .wrBuf1Flag⟩,
    ⟨0xFFFF, 0x0054, .rdBuf1Line⟩,
    ⟨0xFFFF, 0x0058, .rdBuf1Len⟩,
    ⟨0xF803, 0x1000, .rdBuf0Pix⟩,
    ⟨0xF803, 0x1001, .wrBuf0Pix⟩,
    ⟨0xF803, 0x2000, .rdBuf1Pix⟩,
    ⟨0xF803, 0x2001, .wrBuf1Pix⟩ ]

/-- The palette, CLUT and TBUF windows (R86: 0x3000 to 0x502C). -/
def busTableTables : List RowPattern :=
  [ ⟨0xFC03, 0x3000, .rdPalette⟩,
    ⟨0xF803, 0x4000, .rdClut⟩,
    ⟨0xFFC3, 0x5000, .rdTbuf⟩ ]

/-- Writes to read-only registers (R261). -/
def busTableReadOnly : List RowPattern :=
  [ ⟨0xFFFF, 0x0009, .wrRoScanline⟩,
    ⟨0xFFFF, 0x000D, .wrRoTimingLine⟩,
    ⟨0xFFFF, 0x0011, .wrRoVisLines⟩,
    ⟨0xFFFF, 0x0015, .wrRoTextDims⟩,
    ⟨0xFFFF, 0x0019, .wrRoFbAddr⟩,
    ⟨0xFFFF, 0x001D, .wrRoClash⟩,
    ⟨0xFFFF, 0x0021, .wrRoNeedsMemory⟩,
    ⟨0xFFFF, 0x0045, .wrRoBuf0Line⟩,
    ⟨0xFFFF, 0x0049, .wrRoBuf0Len⟩,
    ⟨0xFFFF, 0x0055, .wrRoBuf1Line⟩,
    ⟨0xFFFF, 0x0059, .wrRoBuf1Len⟩,
    ⟨0xFC03, 0x3001, .wrRoPalette⟩,
    ⟨0xF803, 0x4001, .wrRoClut⟩,
    ⟨0xFFC3, 0x5001, .wrRoTbuf⟩ ]

/-- The 40 rows of format `bus`. -/
def busTable : List RowPattern := busTableControl ++ busTableBuffers ++ busTableTables ++ busTableReadOnly

/-- The row a key matches, if any (no key matches two: Obligations.NoTwoBusRowsOverlap). -/
def busRowOf (key : Half) : Option BusRow := (busTable.find? fun r => r.hits key).map (·.row)

/-- The instruction of a row, its index taken from the key (R126) and its data from the access. -/
def BusRow.instr (key : Half) (data : Word) : BusRow → Instr
  | .rdMode => .rdMode
  | .wrMode => .wrMode data
  | .rdCtrl => .rdCtrl
  | .wrCtrl => .wrCtrl data
  | .rdScanline => .rdScanline
  | .rdTimingLine => .rdTimingLine
  | .rdVisLines => .rdVisLines
  | .rdTextDims => .rdTextDims
  | .rdFbAddr => .rdFbAddr
  | .rdClash => .rdClash
  | .rdNeedsMemory => .rdNeedsMemory
  | .rdBuf0Flag => .rdBuf0Flag
  | .wrBuf0Flag => .wrBuf0Flag data
  | .rdBuf0Line => .rdBuf0Line
  | .rdBuf0Len => .rdBuf0Len
  | .rdBuf1Flag => .rdBuf1Flag
  | .wrBuf1Flag => .wrBuf1Flag data
  | .rdBuf1Line => .rdBuf1Line
  | .rdBuf1Len => .rdBuf1Len
  | .rdBuf0Pix => .rdBuf0Pix (keyIndex9 key)
  | .wrBuf0Pix => .wrBuf0Pix (keyIndex9 key) data
  | .rdBuf1Pix => .rdBuf1Pix (keyIndex9 key)
  | .wrBuf1Pix => .wrBuf1Pix (keyIndex9 key) data
  | .rdPalette => .rdPalette (keyIndex8 key)
  | .rdClut => .rdClut (keyIndex9 key)
  | .rdTbuf => .rdTbuf (keyTbufK key) (keyTbufJ key)
  | .wrRoScanline => .wrRoScanline data
  | .wrRoTimingLine => .wrRoTimingLine data
  | .wrRoVisLines => .wrRoVisLines data
  | .wrRoTextDims => .wrRoTextDims data
  | .wrRoFbAddr => .wrRoFbAddr data
  | .wrRoClash => .wrRoClash data
  | .wrRoNeedsMemory => .wrRoNeedsMemory data
  | .wrRoBuf0Line => .wrRoBuf0Line data
  | .wrRoBuf0Len => .wrRoBuf0Len data
  | .wrRoBuf1Line => .wrRoBuf1Line data
  | .wrRoBuf1Len => .wrRoBuf1Len data
  | .wrRoPalette => .wrRoPalette (keyIndex8 key) data
  | .wrRoClut => .wrRoClut (keyIndex9 key) data
  | .wrRoTbuf => .wrRoTbuf (keyTbufK key) (keyTbufJ key) data

/-- The bus decoder: a key that matches no row, or whose index is past the end of its window, is unmapped (R87, R126, R240). -/
def decodeBus (key : Half) (data : Word) : Except DecodeError Instr :=
  match busRowOf key with
  | none => .error (.unmapped key)
  | some row =>
    let i := row.instr key data
    if i.wellFormed then .ok i else .error (.unmapped key)

/-- The timing-word decoder: a word with a reserved bit set is rejected (R112). A word with PERIOD 0 has the row's bits
(mask 0x0000FFF8) and its meaning raises TW_BAD (R156, R159; assumption 23). -/
def decodeTw (w : Word) : Except DecodeError Instr :=
  if twReserved w = 0 then .ok (.tw (twHs w) (twVs w) (twTrig w) (twPeriod w)) else .error (.twReserved w)

/-- The decoder, total on whatever a unit takes. -/
def decode : Raw → Except DecodeError Instr
  | .tw w => decodeTw w
  | .len w => .ok (.len (lenN w) (lenIgnored w))
  | .pair w => .ok (.pair (pairPix0 w) (pairIgnLo w) (pairPix1 w) (pairIgnHi w))
  | .bus key data => decodeBus key data

/-! ### The encoder -/

/-- The key of entry i of a window: `base + 4*i` (R86, R126). -/
def windowKey (base : Half) (i : Half) : Half := base ||| (i <<< 2)

/-- The key of TBUF[k][j]: `0x5000 + 16*k + 4*j`, and bit 0 for a write (R86). -/
def tbufKey (base : Half) (k j : BitVec 2) : Half := base ||| (k.setWidth 16 <<< 4) ||| (j.setWidth 16 <<< 2)

/-- The words of an instruction. A read carries no data, written as 0 (assumption 24). -/
def encode : Instr → Raw
  | .tw hs vs trig period => .tw (twWord hs vs trig period)
  | .len n ign => .len (lenWord n ign)
  | .pair p0 lo p1 hi => .pair (pairWord p0 lo p1 hi)
  | .rdMode => .bus 0x0000 0
  | .wrMode v => .bus 0x0001 v
  | .rdCtrl => .bus 0x0004 0
  | .wrCtrl v => .bus 0x0005 v
  | .rdScanline => .bus 0x0008 0
  | .rdTimingLine => .bus 0x000C 0
  | .rdVisLines => .bus 0x0010 0
  | .rdTextDims => .bus 0x0014 0
  | .rdFbAddr => .bus 0x0018 0
  | .rdClash => .bus 0x001C 0
  | .rdNeedsMemory => .bus 0x0020 0
  | .rdBuf0Flag => .bus 0x0040 0
  | .wrBuf0Flag v => .bus 0x0041 v
  | .rdBuf0Line => .bus 0x0044 0
  | .rdBuf0Len => .bus 0x0048 0
  | .rdBuf1Flag => .bus 0x0050 0
  | .wrBuf1Flag v => .bus 0x0051 v
  | .rdBuf1Line => .bus 0x0054 0
  | .rdBuf1Len => .bus 0x0058 0
  | .rdBuf0Pix i => .bus (windowKey 0x1000 (i.setWidth 16)) 0
  | .wrBuf0Pix i v => .bus (windowKey 0x1001 (i.setWidth 16)) v
  | .rdBuf1Pix i => .bus (windowKey 0x2000 (i.setWidth 16)) 0
  | .wrBuf1Pix i v => .bus (windowKey 0x2001 (i.setWidth 16)) v
  | .rdPalette i => .bus (windowKey 0x3000 (i.setWidth 16)) 0
  | .rdClut i => .bus (windowKey 0x4000 (i.setWidth 16)) 0
  | .rdTbuf k j => .bus (tbufKey 0x5000 k j) 0
  | .wrRoScanline v => .bus 0x0009 v
  | .wrRoTimingLine v => .bus 0x000D v
  | .wrRoVisLines v => .bus 0x0011 v
  | .wrRoTextDims v => .bus 0x0015 v
  | .wrRoFbAddr v => .bus 0x0019 v
  | .wrRoClash v => .bus 0x001D v
  | .wrRoNeedsMemory v => .bus 0x0021 v
  | .wrRoBuf0Line v => .bus 0x0045 v
  | .wrRoBuf0Len v => .bus 0x0049 v
  | .wrRoBuf1Line v => .bus 0x0055 v
  | .wrRoBuf1Len v => .bus 0x0059 v
  | .wrRoPalette i v => .bus (windowKey 0x3001 (i.setWidth 16)) v
  | .wrRoClut i v => .bus (windowKey 0x4001 (i.setWidth 16)) v
  | .wrRoTbuf k j v => .bus (tbufKey 0x5001 k j) v

/-! ### The opcode table's numbering of the bits

spec/opcode_table.json numbers a word's bits from 0; three rows (TW, LEN, PAIR) are words that only the unit taking them
tells apart, so a table word is given to a unit by its length and its fixed bits. Assumption 22. -/

/-- The access or word that `nbits` bits of value `w` stand for: with 16 bits or fewer a bus key (data 0), or, where no row has that key
and bits 15:3 are 0, a timing word; with more, a timing word if it is a legal one (R112), else a LEN word if bits 31:16 are 0,
else a PAIR word. -/
def tableRaw (nbits w : Nat) : Raw :=
  let word := BitVec.ofNat 32 w
  let key := BitVec.ofNat 16 w
  if nbits ≤ 16 then
    if (busRowOf key).isNone && decide (twReserved (key.setWidth 32) = 0) then .tw (key.setWidth 32) else .bus key 0
  else if twLegal word then .tw word
  else if lenIgnored word = 0 then .len word
  else .pair word

/-- The instruction the decoder reads from a table word (assumption 22). -/
def decodeTableWord (nbits w : Nat) : Option Instr :=
  match decode (tableRaw nbits w) with
  | .ok i => some i
  | .error _ => none

end Sys2Proof
end

