-- ==== Sys2Proof/Machine/Clut.lean ====
section
/-! DEFINITION. The colour lookup table CLUT and its build from PALETTE (spec/45_render_producer.md R290). -/

namespace Sys2Proof

/-- PALETTE[i]; an index has 8 bits or fewer wherever the block uses one. -/
def colourAt (palette : Vector Colour 256) (i : Nat) : Colour :=
  if h : i < 256 then palette[i] else 0

/-- The colour of one pixel: the foreground's if its pattern bit is set, else the background's (R290). -/
def pixelColour (palette : Vector Colour 256) (a : BitVec 7) (set : Bool) : Colour :=
  if set then colourAt palette (attrFg a).toNat else colourAt palette (attrBg a).toNat

/-- `CLUT[a*4 + p]`: bit 1 of p is the left pixel, bit 0 the right (R290). -/
def clutEntry (palette : Vector Colour 256) (a : BitVec 7) (p : BitVec 2) : Word :=
  colourPair (pixelColour palette a (p.getLsbD 1)) (pixelColour palette a (p.getLsbD 0))

/-- The whole table, index i = `{a, p}` (R120, R290). -/
def buildClut (palette : Vector Colour 256) : Vector Word 512 :=
  ⟨⟨(List.range 512).map fun i =>
      clutEntry palette ((BitVec.ofNat 9 i).extractLsb' 2 7) ((BitVec.ofNat 9 i).extractLsb' 0 2)⟩, by simp⟩

/-- CLUT[i]. -/
def clutAt (clut : Vector Word 512) (i : BitVec 9) : Word := clut[i.toNat]'i.isLt

end Sys2Proof
end

