-- ==== Sys2Proof/Machine/Mode.lean ====
section
/-! DEFINITION. What a MODE value determines (spec/00_scope.md R14), the timing-buffer build and the category function
(41_timing_generator.md R151 to R161), and which configurations are accepted (00_scope.md R8). -/

namespace Sys2Proof

/-! ### Derived mode quantities (R14) -/

/-- `s = m.TIMING`. -/
def modeStd (m : Word) : Standard := if modeTiming m then .s1 else .s0

/-- `FONT_H = 16 if m.FONT = 0 else 8`. -/
def fontHeight (m : Word) : Nat := if modeFont m then 8 else 16

/-- `FONT_SHIFT = log2(FONT_H)`. -/
def fontShift (m : Word) : Nat := if modeFont m then 3 else 4

/-- `COLS = 80 if m.COLS = 0 else 40`. -/
def modeColumns (m : Word) : Nat := if modeCols m then 40 else 80

/-- FP_END of a standard: VIS + V_FP. -/
def Params.fpEndOf (c : Params) (s : Standard) : Nat := c.vVis.get s + c.vFp.get s

/-- SYNC_END of a standard: FP_END + V_SYNC. -/
def Params.syncEndOf (c : Params) (s : Standard) : Nat := c.fpEndOf s + c.vSync.get s

/-- BP_END of a standard: SYNC_END + V_BP. -/
def Params.bpEndOf (c : Params) (s : Standard) : Nat := c.syncEndOf s + c.vBp.get s

/-- `VIS = V_VIS[s]`. -/
def Params.vis (c : Params) (m : Word) : Nat := c.vVis.get (modeStd m)

/-- `ROWS = VIS / FONT_H`. -/
def Params.rows (c : Params) (m : Word) : Nat := c.vis m / fontHeight m

/-- `FP_END`. -/
def Params.fpEnd (c : Params) (m : Word) : Nat := c.fpEndOf (modeStd m)

/-- `SYNC_END`. -/
def Params.syncEnd (c : Params) (m : Word) : Nat := c.syncEndOf (modeStd m)

/-- `BP_END`. -/
def Params.bpEnd (c : Params) (m : Word) : Nat := c.bpEndOf (modeStd m)

/-! ### The timing-buffer build (R151 to R154) -/

/-- `p_j = H_j * CPP + CORR[s][j]`, in cycles. -/
def Params.period (c : Params) (s : Standard) (j : Slot) : Int :=
  ((c.hPixels.get j * c.cpp : Nat) : Int) + (c.corr.get s).get j

/-- `p_j` as the 16-bit PERIOD field; no bits are lost where R8 holds. -/
def Params.periodField (c : Params) (s : Standard) (j : Slot) : Half := BitVec.ofInt 16 (c.period s j)

/-- The four words of one category: HS active in the sync word only, VS at level `v`, TRIG in the visible word when `trig`. -/
def Params.lineWords (c : Params) (s : Standard) (v trig : Bool) : Slots Word :=
  let hA := c.hsActive.get s
  { fp := twWord (!hA) v false (c.periodField s .fp)
    sync := twWord hA v false (c.periodField s .sync)
    bp := twWord (!hA) v false (c.periodField s .bp)
    vis := twWord (!hA) v trig (c.periodField s .vis) }

/-- `build(m)`: VISIBLE with VS idle and the trigger (R152), PORCH with VS idle (R153), SYNC with VS active (R154). -/
def Params.build (c : Params) (m : Word) : Categories (Slots Word) :=
  let s := modeStd m
  let vA := c.vsActive.get s
  { visible := c.lineWords s (!vA) true
    porch := c.lineWords s (!vA) false
    sync := c.lineWords s vA false }

/-- The duration of one scan line executed without stall, in cycles (R155). -/
def Params.lineCycles (c : Params) (s : Standard) : Int :=
  c.period s .fp + c.period s .sync + c.period s .bp + c.period s .vis

/-- The duration of one frame executed without stall, in cycles (R155, R363). -/
def Params.frameCycles (c : Params) (s : Standard) : Int := c.lineCycles s * (c.bpEndOf s : Int)

/-- The frame rate in hundredths of a frame per second, rounded down (R155, R363). -/
def Params.frameCentiHz (c : Params) (s : Standard) : Int := (c.sysClkHz : Int) * 100 / c.frameCycles s

/-- The cycles from a trigger until POP is back in Wait: `640 * CPP + POP_LAT` (R187) plus the cycles of the line in which PFIFO was
empty (R185, R360). The untimed model has no such count: `stall` is an argument (assumption 15). -/
def Params.popLineCycles (c : Params) (stall : Nat) : Nat := 2 * bufPairs * c.cpp + c.popLat + stall

/-- No trigger overrun: POP is back in Wait within one line period, its PFIFO stall time counted (R360). -/
def Params.noTriggerOverrun (c : Params) (s : Standard) (stall : Nat) : Bool :=
  decide ((c.popLineCycles stall : Int) < c.lineCycles s)

/-! ### The category function (R161) and the next line (R210) -/

/-- `cat(t)`: VISIBLE, PORCH, SYNC, then PORCH for the back porch and any `t >= BP_END`. -/
def Params.category (c : Params) (m : Word) (t : Nat) : Category :=
  if t < c.vis m then .visible
  else if t < c.fpEnd m then .porch
  else if t < c.syncEnd m then .sync
  else .porch

/-- The timing line after t: `T + 1`, and 0 at or past BP_END (R210, R211). -/
def Params.nextTimingLine (c : Params) (m : Word) (t : Nat) : Nat :=
  if c.bpEnd m ≤ t + 1 then 0 else t + 1

/-- The playout line after p: `P + 1`, and 0 at or past VIS (R212). -/
def Params.nextPlayoutLine (c : Params) (m : Word) (p : Nat) : Nat :=
  if c.vis m ≤ p + 1 then 0 else p + 1

/-- The buffer a playout line plays from: `P mod 2` (R212, R244). -/
def bufOfLine (p : Nat) : BufId := if p % 2 = 0 then .buf0 else .buf1

/-! ### Accepted configurations (R8) -/

/-- R8 for one timing standard: V_VIS even, every period in 1..65535. -/
def Params.standardOk (c : Params) (s : Standard) : Bool :=
  decide (c.vVis.get s % 2 = 0) &&
  decide (1 ≤ c.period s .fp ∧ c.period s .fp ≤ 65535) &&
  decide (1 ≤ c.period s .sync ∧ c.period s .sync ≤ 65535) &&
  decide (1 ≤ c.period s .bp ∧ c.period s .bp ≤ 65535) &&
  decide (1 ≤ c.period s .vis ∧ c.period s .vis ≤ 65535)

/-- The conditions R8 states. -/
def Params.r8 (c : Params) : Bool :=
  c.standardOk .s0 && c.standardOk .s1 &&
  decide (1 ≤ c.tfifoDepth) && decide (1 ≤ c.pfifoDepth) &&
  decide (bufPairs = c.hPixels.vis / 2)

/-- The MODE values the block can hold: 0, from reset, and the accepted ones (R32, R242). -/
abbrev Params.Selectable (c : Params) (m : Word) : Prop := m = 0 ∨ m ∈ c.acceptedModes

/-- What other rules need of a mode the block can hold: no reserved bit (R242), P in 0..VIS-1 (R39), T in 0..BP_END-1 held in 16 bits
(R38), ROWS in 8 bits (R125), rows and columns within the grid bound (R7, R122). DEDUCED, assumption 5. -/
def Params.modeFits (c : Params) (m : Word) : Bool :=
  decide (modeReserved m = 0) && decide (1 ≤ c.vis m) && decide (c.bpEnd m ≤ 65536) &&
  decide (c.rows m ≤ 255) && decide (c.rows m ≤ c.maxRows) && decide (modeColumns m ≤ c.maxCols)

/-- The bytes of the grid's reserved region, `MAX_COLS * MAX_ROWS` cells (R122). -/
def Params.gridBytes (c : Params) : Nat := 2 * c.maxCols * c.maxRows

/-- What other rules need beyond R8: of every mode the block can hold, of the regions of the bus space (R80, R83, R249), and
H_VIS = 2 * BUF_PAIRS (R184). DEDUCED, assumption 5. -/
def Params.fits (c : Params) : Bool :=
  (0 :: c.acceptedModes).all c.modeFits && c.toBases.fit c.gridBytes && decide (c.hPixels.vis = 2 * bufPairs)

/-- A configuration the model accepts; `Machine.boot` refuses any other (R8; assumption 5 for `fits`). -/
def Params.ok (c : Params) : Bool := c.r8 && c.fits

end Sys2Proof
end

