-- ==== Sys2Proof/Machine/State.lean ====
section
/-! DEFINITION. The state of the machine (spec/10_state.md), the reasons it can stop, and the state after reset (R58).
State is plain data. Fields marked OWN are the model's, not the spec's. -/

namespace Sys2Proof.Machine

/-- Why the machine stops. The faults of 60_exceptions.md R321 are not these: they are recorded in FAULTS and the
machine goes on (`FaultRecord`, assumption 11). -/
inductive Fault where
  /-- An ordinary memory access of a bus master, or a cell or font read of PROD, whose bytes pass 0xFFFF_FFFF, the top of the
  32-bit bus space (R80). Raised by a bus master's port and by PROD's loop. Safe. Assumption 25. -/
  | beyondAddressSpace (address bytes : Nat)
deriving DecidableEq, Repr

/-- Why the model gives no meaning. -/
inductive Refusal where
  /-- An instruction whose arm has no meaning yet. Raised by no arm of this model. Safe. -/
  | notModelled (mnemonic : String)
  /-- A configuration that breaks R8 ("A model refuses a configuration that breaks one of these"), or another rule (assumption 5). Raised by
  `boot`. Safe. Assumption 6. -/
  | badConfiguration
deriving DecidableEq, Repr

/-- One recorded model fault with its recorded information (60_exceptions.md R321). -/
inductive FaultRecord where
  /-- Code 1: the key matches no row of R86. Bus master, offset, W. -/
  | unmapped (who : Master) (offset : Word) (write : Bool)
  /-- Code 2: not a 32-bit access, or the offset is not word-aligned. Bus master, offset, width in bytes. -/
  | badAccess (who : Master) (offset : Word) (bytes : Nat)
  /-- Code 3: a write to a read-only register. Bus master, offset. -/
  | roWrite (who : Master) (offset : Word)
  /-- Code 4: WR_BUF_FLAG with v != 0. Bus master, buffer, v. -/
  | flagSet (who : Master) (b : BufId) (v : Word)
  /-- Code 5: WR_CTRL with a reserved bit set. v. -/
  | ctrlReserved (v : Word)
  /-- Code 6: a timing word with PERIOD 0 or a reserved bit set. The word. -/
  | twBad (w : Word)
deriving DecidableEq, Repr

/-- The state of DMA_T (R43): Idle, or Active with the category and the next word. -/
inductive DmaT where
  | idle
  | active (k : Category) (j : Slot)
deriving DecidableEq, Repr

/-- The state of DMA_P (R44): Idle, or Active with the buffer and the next word index, 0 the LEN word, 1..320 the pixel pairs. -/
inductive DmaP where
  | idle
  | active (b : BufId) (j : Nat)
deriving DecidableEq, Repr

/-- POP_PHASE (R48). `pix c`: c pixel pairs are still to be taken. -/
inductive PopPhase where
  | wait
  | len
  | pix (c : Nat)
  | blank
deriving DecidableEq, Repr

/-- One entry of the observation trace OUT (R57): an output segment of `emit`, or an EVENT pulse to PROD. -/
inductive OutEvent where
  /-- The sync pins hold these levels for this many cycles (R156). -/
  | syncPins (hs vs : Bool) (cycles : Nat)
  /-- The colour pins hold this colour for this many cycles (R182, R183). -/
  | rgbPins (colour : Colour) (cycles : Nat)
  /-- An EVENT pulse (R216). -/
  | event
deriving DecidableEq, Repr

/-- A scan-line buffer (R51 to R55). LEN is hard-wired: `ScanBuffer.len`. -/
structure ScanBuffer where
  /-- FLAG, "ready_for_drawing": true = PROD owns the buffer (R52). -/
  flag : Bool
  /-- LINE, the line tag (R53). -/
  line : Half
  /-- PIX[0..319], the pixel-pair words (R55). -/
  pix : Vector Word bufPairs
deriving DecidableEq, Repr

/-- BUFb.LEN: read-only, `BUF_PAIRS - 1` at all times (R54). Assumption 29. -/
def ScanBuffer.len (_ : ScanBuffer) : Word := BitVec.ofNat 32 (bufPairs - 1)

/-- The width of a bus access. R83 says only that an access "of another width" than 32 bits is not performed: that the other widths a
bus master can issue are 8 and 16 bits is the model's (DESIGN CHOICE, assumption 37). -/
inductive Width where
  | byte | half | word
deriving DecidableEq, Repr

/-- A width in bytes. -/
def Width.bytes : Width → Nat
  | .byte => 1
  | .half => 2
  | .word => 4

/-- What a bus master asks of its port. OWN, assumptions 17 and 30. -/
inductive Request where
  /-- An access to the register window by its offset from VID_BASE (R86). -/
  | register (offset : Word) (width : Width) (write : Bool) (data : Word)
  /-- An access by absolute bus address: the window's if it touches it, else ordinary memory (R80). -/
  | address (a : Word) (width : Width) (write : Bool) (data : Word)
  /-- The pseudo-operation SET_MODE m (R263). -/
  | setMode (m : Word)
  /-- The second half of SET_MODE: read MODE back and compare (R263). -/
  | checkMode (m : Word)
  /-- The pseudo-operation WAIT_SCANLINE n (R262). -/
  | waitScanline (n : Word)
  /-- WAIT_SCANLINE with its target fixed: repeat RD_SCANLINE until it returns the target (R262). -/
  | spinScanline (target : Word)
deriving DecidableEq, Repr

/-- A bus master's port: its pending requests, oldest first, the value its last read returned, and the result of its last SET_MODE
(none: no read, no SET_MODE yet). OWN, assumption 17. -/
structure Port where
  requests : List Request
  readData : Option Word
  modeSet : Option Bool
deriving DecidableEq, Repr

/-- What PROD holds while it renders a line (R293): buffer, line tag L, mode m, and the text column it is at. -/
structure RenderJob where
  b : BufId
  line : Half
  mode : Word
  col : Nat
deriving DecidableEq, Repr

/-- The place of PROD in its loop (R291 to R299); each constructor is one atomic step. Assumption 19. -/
inductive ProdPhase where
  /-- acquire(b): read BUFb_FLAG until it is 1 (R292). -/
  | acquire (b : BufId)
  /-- Read BUFb_LINE (R293). -/
  | readLine (b : BufId)
  /-- Read MODE and select the rows (R293, R295). -/
  | readMode (b : BufId) (line : Half)
  /-- Read the grid cell of the current column (R296, R297). -/
  | readCell (job : RenderJob)
  /-- Read the glyph's font byte (R296, R297). -/
  | readFont (job : RenderJob) (cell : Half)
  /-- Read the CLUT entry of pattern k (R296, R297). -/
  | readClut (job : RenderJob) (attr : BitVec 7) (glyphRow : Byte) (k : Nat)
  /-- Write the pair of pattern k (R296, R297). -/
  | writePair (job : RenderJob) (attr : BitVec 7) (glyphRow : Byte) (k : Nat) (pair : Word)
  /-- release(b): write 0 to BUFb_FLAG (R299). -/
  | release (b : BufId)
deriving DecidableEq, Repr

/-- Bus memory outside the register window, the grid and the font tables with it: (address, byte) pairs, addresses strictly rising. What
an unlisted address reads as is `unlistedByte` (Ops.lean). Assumption 8. -/
abbrev Memory := List Host.Cell

/-- The state of the machine. -/
structure State where
  /-- The parameters of R7, an argument of the model; no step changes them. Assumption 1. -/
  cfg : Params
  /-- MODE (R32). -/
  mode : Word
  /-- EN (R34). -/
  en : Bool
  /-- TBUF[k][j] (R35). -/
  tbuf : Categories (Slots Word)
  /-- PALETTE[i] (R36). -/
  palette : Vector Colour 256
  /-- CLUT[i] (R37). -/
  clut : Vector Word 512
  /-- T, the timing line (R38). -/
  t : Half
  /-- P, the playout line (R39). -/
  p : Half
  /-- PBUF, the buffer DMA_P was last armed from (R40). -/
  pbuf : BufId
  /-- CLASH (R41). -/
  clash : Word
  /-- T_DONE (R42). -/
  tDone : Bool
  /-- P_DONE (R42). -/
  pDone : Bool
  /-- DMA_T (R43). -/
  dmaT : DmaT
  /-- DMA_P (R44). -/
  dmaP : DmaP
  /-- TFIFO, oldest first (R45). -/
  tfifo : List Word
  /-- TG_CUR (R46). -/
  tgCur : Option Word
  /-- HS, the horizontal sync pin (R46). -/
  hs : Bool
  /-- VS, the vertical sync pin (R46). -/
  vs : Bool
  /-- TRIG (R47). -/
  trig : Bool
  /-- POP_PHASE (R48). -/
  popPhase : PopPhase
  /-- PFIFO, oldest first (R49). -/
  pfifo : List Word
  /-- RGB, the colour pins (R50). -/
  rgb : Colour
  /-- BUF0, "even" (R51). -/
  buf0 : ScanBuffer
  /-- BUF1, "odd" (R51). -/
  buf1 : ScanBuffer
  /-- FAULTS (R56), in the order they were first recorded. Assumption 13. -/
  faults : List FaultRecord
  /-- OUT (R57), oldest first. Assumption 15. -/
  out : List OutEvent
  /-- Bus memory outside the window: the grid, the font tables, and any other address (R80; assumption 36). -/
  mem : Memory
  /-- PROD's place in its loop (R291). -/
  prod : ProdPhase
  /-- HOST's port. OWN, assumption 17. -/
  hostPort : Port
  /-- PROD's port, for bus operations outside its loop (R240). OWN, assumption 17. -/
  prodPort : Port
  /-- The bus master whose operation is being executed. OWN, assumption 18. -/
  master : Master
  /-- The agents picked next. OWN, assumption 9. -/
  sched : List Agent
  /-- The number of free picks made. OWN, assumption 9. -/
  tick : Nat
deriving DecidableEq, Repr

/-- A port with nothing asked and nothing returned. -/
def Port.idle : Port := { requests := [], readData := none, modeSet := none }

/-- A buffer at reset: flag 0, the given tag, any pixel words (R52, R53, R55). -/
def ScanBuffer.reset (b : BufId) (line : Half) : ScanBuffer where
  flag := false
  line := line
  pix := ⟨⟨(List.range bufPairs).map (Config.resetPixel b)⟩, by simp⟩

/-- The state right after reset of a machine with parameters `c` (R58, R350, R351). -/
def State.resetWith (c : Params) : State where
  cfg := c
  mode := 0
  en := false
  tbuf := c.build 0
  palette := c.paletteInit
  clut := buildClut c.paletteInit
  t := 0
  p := 0
  pbuf := .buf0
  clash := 0
  tDone := false
  pDone := false
  dmaT := .idle
  dmaP := .idle
  tfifo := []
  tgCur := none
  hs := !c.hsActive.s0
  vs := !c.vsActive.s0
  trig := false
  popPhase := .wait
  pfifo := []
  rgb := 0
  buf0 := ScanBuffer.reset .buf0 0
  buf1 := ScanBuffer.reset .buf1 1
  faults := []
  out := []
  mem := []
  prod := .acquire .buf0
  hostPort := Port.idle
  prodPort := Port.idle
  master := .host
  sched := []
  tick := 0

/-- The machine right after reset, with R7's default parameters and a free value for each OPEN one. -/
def State.reset : State := State.resetWith Config.params

end Sys2Proof.Machine
end

