-- ==== Sys2Proof/Machine/Ops.lean ====
section
/-! DEFINITION. The named operations every meaning is built from: raising a fault (60_exceptions.md R321), returning a read's value,
the ports, the buffers, the FIFOs, arming the DMA channels, OUT, and bus memory. -/

namespace Sys2Proof.Machine

/-- What a step or a meaning answers. -/
abbrev Result := Host.Outcome State Fault Refusal

/-- Go on with `f` from the next state; a stop stays a stop. -/
def bindNext (r : Result) (f : State → Result) : Result :=
  match r with
  | .next s => f s
  | .fault e => .fault e
  | .refused e => .refused e

/-- A step that is not enabled is not taken (R11, R158, R185): nothing changes. Assumptions 10 and 28. -/
def stall (s : State) : Result := .next s

/-! ### Raising a fault (R321, R322)

The block has no trap, vector or return (R328, R329): raising a fault records it, and the step that raises it changes nothing else. -/

/-- The set FAULTS with `f` in it. FAULTS is a set, so one already there is not listed again (R56, assumption 13). -/
def recordFault (f : FaultRecord) (fs : List FaultRecord) : List FaultRecord :=
  if f ∈ fs then fs else fs ++ [f]

/-- `raise Fault(code)`: the fault is recorded in FAULTS and no other state changes (R321). Assumption 11. -/
def raiseFault (f : FaultRecord) (s : State) : Result :=
  .next { s with faults := recordFault f s.faults }

/-- The code of a recorded fault (R321). -/
def FaultRecord.code : FaultRecord → Nat
  | .unmapped _ _ _ => 1
  | .badAccess _ _ _ => 2
  | .roWrite _ _ => 3
  | .flagSet _ _ _ => 4
  | .ctrlReserved _ => 5
  | .twBad _ => 6

/-- A TW_BAD has been recorded, after which TG takes no further step (R159, R322). -/
def tgStopped (s : State) : Bool := s.faults.any fun f => decide (f.code = 6)

/-! ### Ports -/

/-- A bus master's port. -/
def State.port (s : State) : Master → Port
  | .host => s.hostPort
  | .prod => s.prodPort

/-- A bus master's port replaced. -/
def State.setPort (s : State) (m : Master) (p : Port) : State :=
  match m with
  | .host => { s with hostPort := p }
  | .prod => { s with prodPort := p }

/-- `return v` of a bus read: the value goes to the bus master whose operation it is. Assumption 17. -/
def State.reply (s : State) (v : Word) : State :=
  s.setPort s.master { s.port s.master with readData := some v }

/-- The pending requests of a bus master replaced. -/
def State.setRequests (s : State) (m : Master) (rs : List Request) : State :=
  s.setPort m { s.port m with requests := rs }

/-- The result of a bus master's SET_MODE (R263). -/
def State.setModeSet (s : State) (m : Master) (b : Bool) : State :=
  s.setPort m { s.port m with modeSet := some b }

/-! ### The buffer pair -/

/-- Buffer b. -/
def State.buf (s : State) : BufId → ScanBuffer
  | .buf0 => s.buf0
  | .buf1 => s.buf1

/-- Buffer b replaced. -/
def State.setBuf (s : State) (b : BufId) (x : ScanBuffer) : State :=
  match b with
  | .buf0 => { s with buf0 := x }
  | .buf1 => { s with buf1 := x }

/-- PIX[i] of a buffer, none at or past BUF_PAIRS. -/
def ScanBuffer.pixel (x : ScanBuffer) (i : Nat) : Option Word :=
  if h : i < bufPairs then some (x.pix[i]) else none

/-- PIX[i] replaced; nothing at or past BUF_PAIRS. -/
def ScanBuffer.setPixel (x : ScanBuffer) (i : Nat) (v : Word) : ScanBuffer :=
  if h : i < bufPairs then { x with pix := x.pix.set i v } else x

/-- The word DMA_P moves at index j: 0 is LEN, j is PIX[j-1] (R204); no index past BUF_PAIRS is reached. -/
def ScanBuffer.dmaWord (x : ScanBuffer) (j : Nat) : Word :=
  if j = 0 then x.len else (x.pixel (j - 1)).getD 0

/-! ### DMA arming, OUT -/

/-- Arming DMA_T from category k (R200). -/
def State.armT (s : State) (k : Category) : State := { s with dmaT := .active k .fp }

/-- Arming DMA_P from buffer b (R203). -/
def State.armP (s : State) (b : BufId) : State := { s with dmaP := .active b 0, pbuf := b }

/-- Recording output segments and pulses in OUT (R10, R57). -/
def State.record (s : State) (es : List OutEvent) : State := { s with out := s.out ++ es }

/-! ### Bus memory outside the window (R80, R82, R84) -/

/-- The byte listed at an address. -/
def Memory.listed : Memory → Nat → Option Byte
  | [], _ => none
  | (k, b) :: rest, a => if k = a then some b else Memory.listed rest a

/-- A byte written: the addresses stay strictly rising. -/
def Memory.put : Memory → Nat → Byte → Memory
  | [], a, v => [(a, v)]
  | (k, b) :: rest, a, v =>
    if k < a then (k, b) :: Memory.put rest a v
    else if k = a then (a, v) :: rest
    else (a, v) :: (k, b) :: rest

/-- The entry of an address removed. -/
def Memory.erase (m : Memory) (a : Nat) : Memory := m.filter fun cell => decide (cell.1 ≠ a)

/-- The byte of a table that stands at `base`. -/
def tableByte {n : Nat} (table : Vector Byte n) (base a : Nat) : Option Byte := if base ≤ a then table[a - base]? else none

/-- The byte an address holds at reset, where the parameters give one: FONT8 and FONT16 in their tables (R7, R80; assumption 35). -/
def initialByte (c : Params) (a : Nat) : Option Byte :=
  (tableByte c.font8 c.font8Base.toNat a).or (tableByte c.font16 c.font16Base.toNat a)

/-- What an unlisted address reads as: its font byte, or the free value of a byte nothing has written (assumption 8). -/
def unlistedByte (c : Params) (a : Nat) : Byte := (initialByte c a).getD (Config.unwrittenByte a)

/-- Addresses strictly rising from `lo`, all in the 32-bit bus space. -/
def Memory.risingFrom (lo : Nat) : Memory → Bool
  | [] => true
  | (k, _) :: rest => decide (lo ≤ k) && decide (k < 2 ^ 32) && Memory.risingFrom (k + 1) rest

/-- The canonical form: strictly rising addresses below 2^32, and no entry equal to the byte its address holds at reset. An unlisted address
without such a byte has no value of its own (assumption 8). -/
def Memory.wf (c : Params) (m : Memory) : Bool :=
  Memory.risingFrom 0 m && m.all fun cell => decide (initialByte c cell.1 ≠ some cell.2)

/-- The byte at an address: the one last written, or what an unlisted address reads as. -/
def Memory.read (m : Memory) (c : Params) (a : Nat) : Byte := (m.listed a).getD (unlistedByte c a)

/-- A byte written, in the canonical form: an entry equal to what the address holds at reset is not listed. -/
def Memory.write (m : Memory) (c : Params) (a : Nat) (v : Byte) : Memory :=
  if initialByte c a = some v then m.erase a else m.put a v

/-- The bytes of `MemWrite(a, n, v)` written: little-endian; a narrow write takes the low bits of v (R10, R82). -/
def Memory.store (m : Memory) (c : Params) (a : Nat) (v : Word) : Width → Memory
  | .byte => m.write c a (v.extractLsb' 0 8)
  | .half => (m.write c a (v.extractLsb' 0 8)).write c (a + 1) (v.extractLsb' 8 8)
  | .word =>
    (((m.write c a (v.extractLsb' 0 8)).write c (a + 1) (v.extractLsb' 8 8)).write
      c (a + 2) (v.extractLsb' 16 8)).write c (a + 3) (v.extractLsb' 24 8)

/-- A byte of bus memory. -/
def State.readByte (s : State) (a : Nat) : Byte := s.mem.read s.cfg a

/-- `MemRead(a, n)`: little-endian, the byte at the lowest address in bits 7..0 (R10, R82). -/
def State.readMem (s : State) (a : Nat) : Width → Word
  | .byte => (s.readByte a).setWidth 32
  | .half => (s.readByte (a + 1) ++ s.readByte a).setWidth 32
  | .word => (s.readByte (a + 3) ++ s.readByte (a + 2)) ++ (s.readByte (a + 1) ++ s.readByte a)

/-- `MemWrite(a, n, v)` (R10). -/
def State.writeMem (s : State) (a : Nat) (v : Word) (w : Width) : State := { s with mem := s.mem.store s.cfg a v w }

/-- The bytes of an access lie in the 32-bit bus space (R80). -/
def inBusSpace (a bytes : Nat) : Bool := decide (a + bytes ≤ 2 ^ 32)

/-! ### Refusing a configuration (R8) -/

/-- The machine of a configuration: its reset state, or a refusal where R8, or what another rule needs (assumption 5), does not hold.
Assumption 6. -/
def boot (c : Params) : Result := if c.ok then .next (State.resetWith c) else .refused .badConfiguration

end Sys2Proof.Machine
end

