-- ==== Sys2Proof/Machine/Flags.lean ====
section
/-! DEFINITION. The block's flags (EN, TRIG, T_DONE, P_DONE, BUFb.FLAG, CLASH): who sets and clears each, and how the registers read them.
spec/10_state.md R34, R41, R42, R47, R52; spec/30_encoding.md R116, R123 to R125. -/

namespace Sys2Proof.Machine

/-- TRIG is set by a word whose TRIG field is 1; already 1, it stays 1 (R47, R156). -/
def trigAfterWord (trig field : Bool) : Bool := trig || field

/-- CLASH after the check of buffer nb: one more, mod 2^32, if its flag is still 1 (R212, R213). -/
def clashAfterCheck (clash : Word) (flag : Bool) : Word := if flag then clash + 1 else clash

/-- The CTRL register: bit 0 EN, bits 31:1 read as 0 (R116, R243). -/
def ctrlRegister (s : State) : Word := bitWord s.en

/-- The BUFb_FLAG register: bit 0 the flag, bits 31:1 read as 0 (R123, R252). -/
def flagRegister (s : State) (b : BufId) : Word := bitWord (s.buf b).flag

/-- The BUFb_LINE register: bits 15:0 the tag (R124, R253). -/
def lineRegister (s : State) (b : BufId) : Word := (s.buf b).line.setWidth 32

/-- The SCANLINE register: P, zero-extended (R124, R246). -/
def scanlineRegister (s : State) : Word := s.p.setWidth 32

/-- The TIMING_LINE register: T, zero-extended (R124, R245). -/
def timingLineRegister (s : State) : Word := s.t.setWidth 32

/-- The VIS_LINES register: VIS (R124, R247). -/
def visLinesRegister (s : State) : Word := BitVec.ofNat 32 (s.cfg.vis s.mode)

/-- The TEXT_DIMS register: `(ROWS << 8) | COLS` (R125, R248). -/
def textDimsRegister (s : State) : Word :=
  (BitVec.ofNat 32 (s.cfg.rows s.mode) <<< 8) ||| BitVec.ofNat 32 (modeColumns s.mode)

/-- The buffer with its flag cleared: PROD's hand-back to the output side (R52, R251). -/
def ScanBuffer.clearFlag (x : ScanBuffer) : ScanBuffer := { x with flag := false }

/-- The buffer handed to PROD: the new tag, then flag 1, in one step (R215). -/
def ScanBuffer.handOver (x : ScanBuffer) (line : Half) : ScanBuffer := { x with line := line, flag := true }

end Sys2Proof.Machine
end

