-- ==== Sys2Proof/Machine/BusBuffers.lean ====
section
/-! DEFINITION. The buffer registers and pixel windows (spec/44_host_interface.md R251 to R256). -/

namespace Sys2Proof.Machine

/-- The offset of BUFb_PIX[i] (R86). -/
def pixelOffset (b : BufId) (i : BitVec 9) : Word :=
  match b with
  | .buf0 => 0x1000 + (i.setWidth 32 <<< 2)
  | .buf1 => 0x2000 + (i.setWidth 32 <<< 2)

/-- RD_BUF_FLAG b: PROD's acquire read (R252). -/
def readBufFlag (b : BufId) (s : State) : Result := .next (s.reply (flagRegister s b))

/-- WR_BUF_FLAG b: 0 clears the flag, the release; any other value raises FLAG_SET (R251). -/
def writeBufFlag (b : BufId) (v : Word) (s : State) : Result :=
  if v ≠ 0 then raiseFault (.flagSet s.master b v) s
  else .next (s.setBuf b (s.buf b).clearFlag)

/-- RD_BUF_LINE b (R253). -/
def readBufLine (b : BufId) (s : State) : Result := .next (s.reply (lineRegister s b))

/-- RD_BUF_LEN b (R254). -/
def readBufLen (b : BufId) (s : State) : Result := .next (s.reply (s.buf b).len)

/-- RD_BUF_PIX b, i: PIX[i]; an index at or past BUF_PAIRS is unmapped (R255). -/
def readBufPix (b : BufId) (i : BitVec 9) (s : State) : Result :=
  match (s.buf b).pixel i.toNat with
  | some w => .next (s.reply w)
  | none => raiseFault (.unmapped s.master (pixelOffset b i) false) s

/-- WR_BUF_PIX b, i: the word is stored whatever the flag holds; an index at or past BUF_PAIRS is unmapped (R256). -/
def writeBufPix (b : BufId) (i : BitVec 9) (v : Word) (s : State) : Result :=
  if i.toNat < bufPairs then .next (s.setBuf b ((s.buf b).setPixel i.toNat v))
  else raiseFault (.unmapped s.master (pixelOffset b i) true) s

/-- RD_BUF0_FLAG. -/
def execRdBuf0Flag (s : State) : Result := readBufFlag .buf0 s

/-- WR_BUF0_FLAG. -/
def execWrBuf0Flag (v : Word) (s : State) : Result := writeBufFlag .buf0 v s

/-- RD_BUF0_LINE. -/
def execRdBuf0Line (s : State) : Result := readBufLine .buf0 s

/-- RD_BUF0_LEN. -/
def execRdBuf0Len (s : State) : Result := readBufLen .buf0 s

/-- RD_BUF1_FLAG. -/
def execRdBuf1Flag (s : State) : Result := readBufFlag .buf1 s

/-- WR_BUF1_FLAG. -/
def execWrBuf1Flag (v : Word) (s : State) : Result := writeBufFlag .buf1 v s

/-- RD_BUF1_LINE. -/
def execRdBuf1Line (s : State) : Result := readBufLine .buf1 s

/-- RD_BUF1_LEN. -/
def execRdBuf1Len (s : State) : Result := readBufLen .buf1 s

/-- RD_BUF0_PIX. -/
def execRdBuf0Pix (i : BitVec 9) (s : State) : Result := readBufPix .buf0 i s

/-- WR_BUF0_PIX. -/
def execWrBuf0Pix (i : BitVec 9) (v : Word) (s : State) : Result := writeBufPix .buf0 i v s

/-- RD_BUF1_PIX. -/
def execRdBuf1Pix (i : BitVec 9) (s : State) : Result := readBufPix .buf1 i s

/-- WR_BUF1_PIX. -/
def execWrBuf1Pix (i : BitVec 9) (v : Word) (s : State) : Result := writeBufPix .buf1 i v s

end Sys2Proof.Machine
end

