-- ==== Sys2Proof/Machine/BusControl.lean ====
section
/-! DEFINITION. The control and status registers: MODE, CTRL, SCANLINE, TIMING_LINE, VIS_LINES, TEXT_DIMS, FB_ADDR, CLASH_COUNT and
NEEDS_MEMORY (spec/44_host_interface.md R241 to R250, R260). -/

namespace Sys2Proof.Machine

/-- RD_MODE (R241). -/
def execRdMode (s : State) : Result := .next (s.reply s.mode)

/-- WR_MODE: an accepted value is the new MODE and rebuilds TBUF in the same step; any other value changes nothing (R242). -/
def execWrMode (v : Word) (s : State) : Result :=
  if v ∈ s.cfg.acceptedModes then .next { s with mode := v, tbuf := s.cfg.build v }
  else .next s

/-- RD_CTRL (R243). -/
def execRdCtrl (s : State) : Result := .next (s.reply (ctrlRegister s))

/-- The start of the block: EN, DMA_T armed from cat(T), DMA_P armed from P mod 2 (R244). -/
def startBlock (s : State) : State :=
  (({ s with en := true }).armT (s.cfg.category s.mode s.t.toNat)).armP (bufOfLine s.p.toNat)

/-- WR_CTRL: a reserved bit raises CTRL_RESERVED; EN is set-only; the first 1 starts the block (R244). -/
def execWrCtrl (v : Word) (s : State) : Result :=
  if ctrlReserved v ≠ 0 then raiseFault (.ctrlReserved v) s
  else if ctrlEn v && !s.en then .next (startBlock s)
  else .next s

/-- RD_SCANLINE (R246). -/
def execRdScanline (s : State) : Result := .next (s.reply (scanlineRegister s))

/-- RD_TIMING_LINE (R245). -/
def execRdTimingLine (s : State) : Result := .next (s.reply (timingLineRegister s))

/-- RD_VIS_LINES (R247). -/
def execRdVisLines (s : State) : Result := .next (s.reply (visLinesRegister s))

/-- RD_TEXT_DIMS (R248). -/
def execRdTextDims (s : State) : Result := .next (s.reply (textDimsRegister s))

/-- RD_FB_ADDR: GRID_BASE (R249). -/
def execRdFbAddr (s : State) : Result := .next (s.reply s.cfg.gridBase)

/-- RD_CLASH (R250). -/
def execRdClash (s : State) : Result := .next (s.reply s.clash)

/-- RD_NEEDS_MEMORY: 0 (R260). -/
def execRdNeedsMemory (s : State) : Result := .next (s.reply 0)

end Sys2Proof.Machine
end

