-- ==== Sys2Proof/Machine/BusTables.lean ====
section
/-! DEFINITION. The palette, CLUT and TBUF windows (spec/44_host_interface.md R257 to R259). -/

namespace Sys2Proof.Machine

/-- The offset of TBUF[k][j]: `0x5000 + 16k + 4j` (R86). -/
def tbufOffset (k j : BitVec 2) : Word := 0x5000 + (k.setWidth 32 <<< 4) + (j.setWidth 32 <<< 2)

/-- RD_PALETTE i (R257). -/
def execRdPalette (i : BitVec 8) (s : State) : Result := .next (s.reply ((colourAt s.palette i.toNat).setWidth 32))

/-- RD_CLUT i (R258). -/
def execRdClut (i : BitVec 9) (s : State) : Result := .next (s.reply (clutAt s.clut i))

/-- RD_TBUF k, j; k = 3 is unmapped (R259). -/
def execRdTbuf (k j : BitVec 2) (s : State) : Result :=
  match categoryOfIndex k with
  | some c => .next (s.reply ((s.tbuf.get c).get (slotOfIndex j)))
  | none => raiseFault (.unmapped s.master (tbufOffset k j) false) s

end Sys2Proof.Machine
end

