-- ==== Sys2Proof/Machine/BusReadOnly.lean ====
section
/-! DEFINITION. Writes to read-only registers: each raises RO_WRITE and changes nothing (spec/44_host_interface.md R261). -/

namespace Sys2Proof.Machine

/-- `raise Fault(RO_WRITE)` with the bus master and the register's offset (R261, R321). -/
def writeReadOnly (offset : Word) (s : State) : Result := raiseFault (.roWrite s.master offset) s

/-- WR to SCANLINE. -/
def execWrRoScanline (_v : Word) (s : State) : Result := writeReadOnly 0x0008 s

/-- WR to TIMING_LINE. -/
def execWrRoTimingLine (_v : Word) (s : State) : Result := writeReadOnly 0x000C s

/-- WR to VIS_LINES. -/
def execWrRoVisLines (_v : Word) (s : State) : Result := writeReadOnly 0x0010 s

/-- WR to TEXT_DIMS. -/
def execWrRoTextDims (_v : Word) (s : State) : Result := writeReadOnly 0x0014 s

/-- WR to FB_ADDR. -/
def execWrRoFbAddr (_v : Word) (s : State) : Result := writeReadOnly 0x0018 s

/-- WR to CLASH_COUNT. -/
def execWrRoClash (_v : Word) (s : State) : Result := writeReadOnly 0x001C s

/-- WR to NEEDS_MEMORY. -/
def execWrRoNeedsMemory (_v : Word) (s : State) : Result := writeReadOnly 0x0020 s

/-- WR to BUF0_LINE. -/
def execWrRoBuf0Line (_v : Word) (s : State) : Result := writeReadOnly 0x0044 s

/-- WR to BUF0_LEN. -/
def execWrRoBuf0Len (_v : Word) (s : State) : Result := writeReadOnly 0x0048 s

/-- WR to BUF1_LINE. -/
def execWrRoBuf1Line (_v : Word) (s : State) : Result := writeReadOnly 0x0054 s

/-- WR to BUF1_LEN. -/
def execWrRoBuf1Len (_v : Word) (s : State) : Result := writeReadOnly 0x0058 s

/-- WR to PALETTE[i]. -/
def execWrRoPalette (i : BitVec 8) (_v : Word) (s : State) : Result := writeReadOnly (0x3000 + (i.setWidth 32 <<< 2)) s

/-- WR to CLUT[i]. -/
def execWrRoClut (i : BitVec 9) (_v : Word) (s : State) : Result := writeReadOnly (0x4000 + (i.setWidth 32 <<< 2)) s

/-- WR to TBUF[k][j]; k = 3 is unmapped (R87, R259). -/
def execWrRoTbuf (k j : BitVec 2) (_v : Word) (s : State) : Result :=
  match categoryOfIndex k with
  | some _ => writeReadOnly (tbufOffset k j) s
  | none => raiseFault (.unmapped s.master (tbufOffset k j) true) s

end Sys2Proof.Machine
end

