-- ==== Sys2Proof/Machine/Pixel.lean ====
section
/-! DEFINITION. POP, the pixel output pipeline: wait, LEN, PAIR and blank (spec/42_pixel_output.md R180 to R187). -/

namespace Sys2Proof.Machine

/-- POP may leave its wait: EN = 1, phase Wait, TRIG = 1 (R180, R186). -/
def popWaitEnabled (s : State) : Bool := s.en && decide (s.popPhase = .wait) && s.trig

/-- The wait ends: TRIG is cleared, phase Len (R180). Untimed: at any later point (assumption 16). -/
def popWait (s : State) : State := { s with trig := false, popPhase := .len }

/-- POP may take a LEN word (R181, R186). -/
def popLenReady (s : State) : Bool := s.en && decide (s.popPhase = .len) && !s.pfifo.isEmpty

/-- LEN: N + 1 pixel pairs follow; bits 31:16 are ignored (R181). -/
def execLen (n _ign : Half) (s : State) : Result :=
  if popLenReady s then .next { s with pfifo := s.pfifo.tail, popPhase := .pix (n.toNat + 1) }
  else stall s

/-- The phase after one more pair (R182). -/
def popPhaseAfterPair (c : Nat) : PopPhase := if c = 1 then .blank else .pix (c - 1)

/-- The pairs still to take when POP may take one: EN = 1, phase Pix(c), PFIFO not empty (R182, R186). -/
def popPairReady (s : State) : Option Nat :=
  match s.popPhase with
  | .pix c => if s.en && !s.pfifo.isEmpty then some c else none
  | .wait => none
  | .len => none
  | .blank => none

/-- PAIR: pixel 0 then pixel 1, each for CPP cycles; bits 15:12 and 31:28 are ignored (R182, R184). -/
def execPair (pix0 : Colour) (_ignLo : BitVec 4) (pix1 : Colour) (_ignHi : BitVec 4) (s : State) : Result :=
  match popPairReady s with
  | some c =>
    .next
      { s with
        pfifo := s.pfifo.tail
        rgb := pix1
        out := s.out ++ [.rgbPins pix0 s.cfg.cpp, .rgbPins pix1 s.cfg.cpp]
        popPhase := popPhaseAfterPair c }
  | none => stall s

/-- POP may blank (R183, R186). -/
def popBlankEnabled (s : State) : Bool := s.en && decide (s.popPhase = .blank)

/-- The blank step: colour 0, then Wait (R183). -/
def popBlank (s : State) : State := { s with rgb := 0, out := s.out ++ [.rgbPins 0 0], popPhase := .wait }

end Sys2Proof.Machine
end

