-- ==== Sys2Proof/Machine/Timing.lean ====
section
/-! DEFINITION. TG, the timing generator: TW and the period end (spec/41_timing_generator.md R156 to R160). -/

namespace Sys2Proof.Machine

/-- TG may take a word: EN = 1, no word in progress, TFIFO not empty, no TW_BAD raised (R156, R159, R160). -/
def tgReady (s : State) : Bool := s.en && !tgStopped s && s.tgCur.isNone && !s.tfifo.isEmpty

/-- TW: the oldest word of TFIFO is taken, drives the pins, sets TRIG if its field says so, and is in progress (R156).
PERIOD 0 raises TW_BAD and nothing else changes, TFIFO included (R159, R321; assumption 12). -/
def execTw (hs vs trig : Bool) (period : Half) (s : State) : Result :=
  if tgReady s then
    if period = 0 then raiseFault (.twBad (twWord hs vs trig period)) s
    else
      .next
        { s with
          tfifo := s.tfifo.tail
          hs := hs
          vs := vs
          trig := trigAfterWord s.trig trig
          tgCur := some (twWord hs vs trig period)
          out := s.out ++ [.syncPins hs vs period.toNat] }
  else stall s

/-- A period may end: a word is in progress, EN = 1 and no TW_BAD raised (R157, R159, R160). -/
def tgPeriodEndEnabled (s : State) : Bool := s.en && !tgStopped s && s.tgCur.isSome

/-- The period end: TG_CUR is none again, the pins do not change (R157). Untimed: at any later point (assumption 16). -/
def tgPeriodEnd (s : State) : State := { s with tgCur := none }

end Sys2Proof.Machine
end

