-- ==== Sys2Proof/Machine/Dispatch.lean ====
section
/-! DEFINITION. The meaning of each instruction: one arm for each row of spec/opcode_table.json. -/

namespace Sys2Proof.Machine

def exec (i : Instr) (s : State) : Host.Outcome State Fault Refusal :=
  match i with
  | .tw hs vs trig period => Sys2Proof.Machine.execTw hs vs trig period s
  | .len n ign => Sys2Proof.Machine.execLen n ign s
  | .pair pix0 ignLo pix1 ignHi => Sys2Proof.Machine.execPair pix0 ignLo pix1 ignHi s
  | .rdMode => Sys2Proof.Machine.execRdMode s
  | .wrMode v => Sys2Proof.Machine.execWrMode v s
  | .rdCtrl => Sys2Proof.Machine.execRdCtrl s
  | .wrCtrl v => Sys2Proof.Machine.execWrCtrl v s
  | .rdScanline => Sys2Proof.Machine.execRdScanline s
  | .rdTimingLine => Sys2Proof.Machine.execRdTimingLine s
  | .rdVisLines => Sys2Proof.Machine.execRdVisLines s
  | .rdTextDims => Sys2Proof.Machine.execRdTextDims s
  | .rdFbAddr => Sys2Proof.Machine.execRdFbAddr s
  | .rdClash => Sys2Proof.Machine.execRdClash s
  | .rdNeedsMemory => Sys2Proof.Machine.execRdNeedsMemory s
  | .rdBuf0Flag => Sys2Proof.Machine.execRdBuf0Flag s
  | .wrBuf0Flag v => Sys2Proof.Machine.execWrBuf0Flag v s
  | .rdBuf0Line => Sys2Proof.Machine.execRdBuf0Line s
  | .rdBuf0Len => Sys2Proof.Machine.execRdBuf0Len s
  | .rdBuf1Flag => Sys2Proof.Machine.execRdBuf1Flag s
  | .wrBuf1Flag v => Sys2Proof.Machine.execWrBuf1Flag v s
  | .rdBuf1Line => Sys2Proof.Machine.execRdBuf1Line s
  | .rdBuf1Len => Sys2Proof.Machine.execRdBuf1Len s
  | .rdBuf0Pix idx => Sys2Proof.Machine.execRdBuf0Pix idx s
  | .wrBuf0Pix idx v => Sys2Proof.Machine.execWrBuf0Pix idx v s
  | .rdBuf1Pix idx => Sys2Proof.Machine.execRdBuf1Pix idx s
  | .wrBuf1Pix idx v => Sys2Proof.Machine.execWrBuf1Pix idx v s
  | .rdPalette idx => Sys2Proof.Machine.execRdPalette idx s
  | .rdClut idx => Sys2Proof.Machine.execRdClut idx s
  | .rdTbuf k j => Sys2Proof.Machine.execRdTbuf k j s
  | .wrRoScanline v => Sys2Proof.Machine.execWrRoScanline v s
  | .wrRoTimingLine v => Sys2Proof.Machine.execWrRoTimingLine v s
  | .wrRoVisLines v => Sys2Proof.Machine.execWrRoVisLines v s
  | .wrRoTextDims v => Sys2Proof.Machine.execWrRoTextDims v s
  | .wrRoFbAddr v => Sys2Proof.Machine.execWrRoFbAddr v s
  | .wrRoClash v => Sys2Proof.Machine.execWrRoClash v s
  | .wrRoNeedsMemory v => Sys2Proof.Machine.execWrRoNeedsMemory v s
  | .wrRoBuf0Line v => Sys2Proof.Machine.execWrRoBuf0Line v s
  | .wrRoBuf0Len v => Sys2Proof.Machine.execWrRoBuf0Len v s
  | .wrRoBuf1Line v => Sys2Proof.Machine.execWrRoBuf1Line v s
  | .wrRoBuf1Len v => Sys2Proof.Machine.execWrRoBuf1Len v s
  | .wrRoPalette idx v => Sys2Proof.Machine.execWrRoPalette idx v s
  | .wrRoClut idx v => Sys2Proof.Machine.execWrRoClut idx v s
  | .wrRoTbuf k j v => Sys2Proof.Machine.execWrRoTbuf k j v s

end Sys2Proof.Machine
end

