-- ==== Sys2Proof/Machine/BusPort.lean ====
section
/-! DEFINITION. A bus master's access: the checks every bus operation passes first (spec/44_host_interface.md R240, 60_exceptions.md R323),
the address map (20_memory.md R80, R86), and the requests of a port. -/

namespace Sys2Proof.Machine

/-- An access to the register window by bus master m, in R323's order: BAD_ACCESS, then UNMAPPED, then the operation's own
pseudocode, which raises RO_WRITE and the value checks. -/
def accessWindow (m : Master) (offset : Word) (width : Width) (write : Bool) (data : Word) (s : State) : Result :=
  if width ≠ .word ∨ offset.toNat % 4 ≠ 0 then raiseFault (.badAccess m offset width.bytes) s
  else if 0x10000 ≤ offset.toNat then raiseFault (.unmapped m offset write) s
  else
    match decode (.bus (busKey offset write) data) with
    | .error _ => raiseFault (.unmapped m offset write) s
    | .ok i => exec i { s with master := m }

/-- The access touches the register window `VID_BASE .. VID_BASE + 0xFFFF` (R80). -/
def touchesWindow (c : Params) (a bytes : Nat) : Bool :=
  decide (c.vidBase.toNat < a + bytes ∧ a < c.vidBase.toNat + 0x10000)

/-- An ordinary memory access of a bus master, outside the window (R80, R84; assumptions 25 and 27). The spec places the grid and the font
tables there and is silent on every other address: that each of those answers as readable and writable memory is the model's
(DESIGN CHOICE, assumption 36). -/
def accessMemory (m : Master) (a : Nat) (width : Width) (write : Bool) (data : Word) (s : State) : Result :=
  if inBusSpace a width.bytes then
    if write then .next (s.writeMem a data width)
    else .next ({ s with master := m }.reply (s.readMem a width))
  else .fault (.beyondAddressSpace a width.bytes)

/-- An access by absolute bus address: one that touches the window is an access to it (R80, R83; assumption 26). -/
def accessAddress (m : Master) (a : Word) (width : Width) (write : Bool) (data : Word) (s : State) : Result :=
  if touchesWindow s.cfg a.toNat width.bytes then accessWindow m (a - s.cfg.vidBase) width write data s
  else accessMemory m a.toNat width write data s

/-- The target of WAIT_SCANLINE n: `min(n, VIS - 1)` (R262). -/
def scanlineTarget (s : State) (n : Word) : Word := BitVec.ofNat 32 (min n.toNat (s.cfg.vis s.mode - 1))

/-- The request r of bus master m, with `rest` still pending after it. -/
def serveRequest (m : Master) (r : Request) (rest : List Request) (s : State) : Result :=
  match r with
  | .register offset width write data => accessWindow m offset width write data (s.setRequests m rest)
  | .address a width write data => accessAddress m a width write data (s.setRequests m rest)
  | .setMode v => accessWindow m 0x0000 .word true v (s.setRequests m (.checkMode v :: rest))
  | .checkMode v =>
    bindNext (accessWindow m 0x0000 .word false 0 (s.setRequests m rest)) fun s' =>
      .next (s'.setModeSet m (decide ((s'.port m).readData = some v)))
  | .waitScanline n => .next (s.setRequests m (.spinScanline (scanlineTarget s n) :: rest))
  | .spinScanline target =>
    bindNext (accessWindow m 0x0008 .word false 0 s) fun s' =>
      .next (if (s'.port m).readData = some target then s'.setRequests m rest else s')

/-- A step of bus master m's port: its oldest request, or none. -/
def portStep (m : Master) (s : State) : Result :=
  match (s.port m).requests with
  | [] => stall s
  | r :: rest => serveRequest m r rest s

end Sys2Proof.Machine
end

