-- ==== Sys2Proof/Machine/Dma.lean ====
section
/-! DEFINITION. The two DMA channels (spec/43_dma_sequencer.md R201 to R206). -/

namespace Sys2Proof.Machine

/-- DMA_T's transfer when it is enabled: category and word (R201). -/
def dmaTReady (s : State) : Option (Category × Slot) :=
  match s.dmaT with
  | .active k j => if s.en && decide (s.tfifo.length < s.cfg.tfifoDepth) then some (k, j) else none
  | .idle => none

/-- DMA_T's step: TBUF[k][j], read now, is pushed; word 3 completes the transfer and sets T_DONE (R201, R202). -/
def dmaTTransfer (k : Category) (j : Slot) (s : State) : State :=
  let s' := { s with tfifo := s.tfifo ++ [(s.tbuf.get k).get j] }
  match j.next with
  | some j' => { s' with dmaT := .active k j' }
  | none => { s' with dmaT := .idle, tDone := true }

/-- DMA_P's transfer when it is enabled: buffer and index (R204). -/
def dmaPReady (s : State) : Option (BufId × Nat) :=
  match s.dmaP with
  | .active b j => if s.en && decide (s.pfifo.length < s.cfg.pfifoDepth) then some (b, j) else none
  | .idle => none

/-- DMA_P's step: LEN or PIX[j-1], read now whatever the flag holds, is pushed; index BUF_PAIRS completes the transfer
and sets P_DONE (R204, R205). -/
def dmaPTransfer (b : BufId) (j : Nat) (s : State) : State :=
  let s' := { s with pfifo := s.pfifo ++ [(s.buf b).dmaWord j] }
  if j = bufPairs then { s' with dmaP := .idle, pDone := true }
  else { s' with dmaP := .active b (j + 1) }

end Sys2Proof.Machine
end

