-- ==== Sys2Proof/Machine/Producer.lean ====
section
/-! DEFINITION. PROD: the render function and the producer's loop (spec/45_render_producer.md R291 to R302).
Every bus operation, cell read and font read of the loop is one atomic step (20_memory.md R84, 44_host_interface.md R240; assumption 19). -/

namespace Sys2Proof.Machine

/-! ### What is rendered -/

/-- `text_row = L >> FONT_SHIFT` (R295). -/
def textRow (m : Word) (line : Half) : Nat := line.toNat >>> fontShift m

/-- `font_row = L & (FONT_H - 1)` (R295). -/
def fontRow (m : Word) (line : Half) : Nat := line.toNat &&& (fontHeight m - 1)

/-- The address of cell (row, col): `GRID_BASE + 2*(row*COLS + col)` (R122). -/
def cellAddress (c : Params) (m : Word) (row col : Nat) : Nat := c.gridBase.toNat + 2 * (row * modeColumns m + col)

/-- The index of glyph G, row r in its table: `G*FONT_H + r` (R121). -/
def fontIndex (m : Word) (glyph : Byte) (row : Nat) : Nat := glyph.toNat * fontHeight m + row

/-- The address of byte i of FONT_H_TABLE, FONT8 or FONT16 by the font of the mode (R80, R121; assumption 35). -/
def fontAddress (c : Params) (m : Word) (i : Nat) : Nat := (if modeFont m then c.font8Base else c.font16Base).toNat + i

/-- The pairs written for one glyph: 4 in 80 columns (R296), 8 in 40 columns (R297). -/
def pairsPerGlyph (m : Word) : Nat := if modeCols m then 8 else 4

/-- The pattern of pair k of a glyph row (R296, R297). -/
def glyphPattern (m : Word) (g : Byte) (k : Nat) : BitVec 2 := if modeCols m then fontDouble g k else fontPattern g k

/-- Pair k of a cell whose glyph row is g: its CLUT entry (R296, R297). -/
def renderedPair (clut : Vector Word 512) (m : Word) (a : BitVec 7) (g : Byte) (k : Nat) : Word :=
  clutAt clut (clutIndex a (glyphPattern m g k))

/-- `Render(m, grid, font, L)`: none is NoPixels; else the 320 pairs, with `cell col` the cell of the text row in column `col` and
`font i` byte i of the font table, as read (R302). -/
def render (c : Params) (clut : Vector Word 512) (m : Word) (cell : Nat → Half) (font : Nat → Byte) (line : Half) :
    Option (List Word) :=
  if c.rows m ≤ textRow m line then none
  else
    some ((List.range bufPairs).map fun i =>
      let w := cell (i / pairsPerGlyph m)
      renderedPair clut m (cellAttr w) (font (fontIndex m (cellGlyph w) (fontRow m line))) (i % pairsPerGlyph m))

/-! ### The loop -/

/-- PROD at a new place in its loop. -/
def State.prodAt (s : State) (ph : ProdPhase) : State := { s with prod := ph }

/-- The value PROD's bus read returned. -/
def State.prodRead (s : State) : Word := s.prodPort.readData.getD 0

/-- PROD is the bus master whose operation is executed (assumption 18). -/
def asProd (s : State) : State := { s with master := .prod }

/-- acquire(b): one read of the flag; 1 lets PROD go on, else it reads again (R292). -/
def prodAcquire (b : BufId) (s : State) : Result :=
  bindNext (readBufFlag b (asProd s)) fun s' =>
    .next (s'.prodAt (if s'.prodRead = 1 then .readLine b else .acquire b))

/-- `L <- RD_BUF_LINE b` (R293). -/
def prodReadLine (b : BufId) (s : State) : Result :=
  bindNext (readBufLine b (asProd s)) fun s' => .next (s'.prodAt (.readMode b (s'.prodRead.setWidth 16)))

/-- Where the render of line L in mode m begins: the first cell, or the release when the text row is past the last (R295).
FONT_H is 8 or 16 and COLS 40 or 80 in every mode, so the aborts of R294 and R295 do not arise (assumption 20). -/
def renderStart (c : Params) (b : BufId) (line : Half) (m : Word) : ProdPhase :=
  if c.rows m ≤ textRow m line then .release b else .readCell { b := b, line := line, mode := m, col := 0 }

/-- `m <- RD_MODE` and the row selection (R293, R295). -/
def prodReadMode (b : BufId) (line : Half) (s : State) : Result :=
  bindNext (execRdMode (asProd s)) fun s' => .next (s'.prodAt (renderStart s'.cfg b line s'.prodRead))

/-- `cell <- MemRead(GRID_BASE + 2*(text_row*COLS + c), 2)` (R296, R297). -/
def prodReadCell (job : RenderJob) (s : State) : Result :=
  let a := cellAddress s.cfg job.mode (textRow job.mode job.line) job.col
  if inBusSpace a 2 then .next (s.prodAt (.readFont job ((s.readMem a .half).setWidth 16)))
  else .fault (.beyondAddressSpace a 2)

/-- `g <- FONT_TABLE[G*FONT_H + font_row]`, one 8-bit read of bus memory (R84, R296, R297). -/
def prodReadFont (job : RenderJob) (cell : Half) (s : State) : Result :=
  let a := fontAddress s.cfg job.mode (fontIndex job.mode (cellGlyph cell) (fontRow job.mode job.line))
  if inBusSpace a 1 then .next (s.prodAt (.readClut job (cellAttr cell) (s.readByte a) 0))
  else .fault (.beyondAddressSpace a 1)

/-- `RD_CLUT (a*4 + p)` with p the pattern of pair k (R296, R297). -/
def prodReadClut (job : RenderJob) (attr : BitVec 7) (g : Byte) (k : Nat) (s : State) : Result :=
  bindNext (execRdClut (clutIndex attr (glyphPattern job.mode g k)) (asProd s)) fun s' =>
    .next (s'.prodAt (.writePair job attr g k s'.prodRead))

/-- The place after pair k: the next pair, the next column, or the release after the last (R296, R297, R299). -/
def afterPair (job : RenderJob) (attr : BitVec 7) (g : Byte) (k : Nat) : ProdPhase :=
  if k + 1 < pairsPerGlyph job.mode then .readClut job attr g (k + 1)
  else if job.col + 1 < modeColumns job.mode then .readCell { job with col := job.col + 1 }
  else .release job.b

/-- `WR_BUF_PIX b, n*c + k` with n pairs a glyph (R296, R297). -/
def prodWritePair (job : RenderJob) (attr : BitVec 7) (g : Byte) (k : Nat) (pair : Word) (s : State) : Result :=
  bindNext (writeBufPix job.b (BitVec.ofNat 9 (pairsPerGlyph job.mode * job.col + k)) pair (asProd s)) fun s' =>
    .next (s'.prodAt (afterPair job attr g k))

/-- release(b): `WR_BUF_FLAG b, 0`, then the other buffer (R291, R299). -/
def prodRelease (b : BufId) (s : State) : Result :=
  bindNext (writeBufFlag b 0 (asProd s)) fun s' => .next (s'.prodAt (.acquire b.other))

/-- One step of PROD's loop. -/
def prodLoopStep (s : State) : Result :=
  match s.prod with
  | .acquire b => prodAcquire b s
  | .readLine b => prodReadLine b s
  | .readMode b line => prodReadMode b line s
  | .readCell job => prodReadCell job s
  | .readFont job cell => prodReadFont job cell s
  | .readClut job attr g k => prodReadClut job attr g k s
  | .writePair job attr g k pair => prodWritePair job attr g k pair s
  | .release b => prodRelease b s

/-- n steps of PROD's loop with no other agent's step between them. -/
def prodRun : Nat → State → Result
  | 0, s => .next s
  | n + 1, s => bindNext (prodLoopStep s) (prodRun n)

end Sys2Proof.Machine
end

