-- ==== Sys2Proof/Machine/Sequencer.lean ====
section
/-! DEFINITION. SEQ, the sequencer: its two steps, one for each DMA completion (spec/43_dma_sequencer.md R207 to R216). -/

namespace Sys2Proof.Machine

/-- SEQ_T is enabled (R207). -/
def seqTEnabled (s : State) : Bool := s.en && s.tDone

/-- SEQ_T: the timing line advances, DMA_T is armed from its category, EVENT is pulsed (R210, R211). -/
def seqT (s : State) : State :=
  let t := s.cfg.nextTimingLine s.mode s.t.toNat
  (({ s with tDone := false, t := BitVec.ofNat 16 t }).armT (s.cfg.category s.mode t)).record [.event]

/-- SEQ_P is enabled (R207). -/
def seqPEnabled (s : State) : Bool := s.en && s.pDone

/-- SEQ_P, the whole step in R212's order: the playout line advances; the flag of the buffer that plays next is checked (R213);
DMA_P is armed from it whatever the check found (R214); the finished buffer gets the tag `(P + 1) mod VIS`
and its flag is set (R215); EVENT is pulsed (R216). -/
def seqP (s : State) : State :=
  let fin := s.pbuf
  let p := s.cfg.nextPlayoutLine s.mode s.p.toNat
  let nb := bufOfLine p
  let checked :=
    { s with pDone := false, p := BitVec.ofNat 16 p, clash := clashAfterCheck s.clash (s.buf nb).flag }
  let armed := checked.armP nb
  let tag := BitVec.ofNat 16 ((p + 1) % s.cfg.vis s.mode)
  (armed.setBuf fin ((armed.buf fin).handOver tag)).record [.event]

end Sys2Proof.Machine
end

