-- ==== Sys2Proof/Machine/Agents.lean ====
section
/-! DEFINITION. One step of each agent (spec/00_scope.md R3, R11), and which agent is picked.
TG and POP decode the word they take and run its instruction. -/

namespace Sys2Proof.Machine

/-- TG takes the oldest word of TFIFO: TW is run, a word that is no TW raises TW_BAD (R156, R159). -/
def tgTake (s : State) : Result :=
  match s.tfifo with
  | [] => stall s
  | w :: _ =>
    match decode (.tw w) with
    | .ok i => exec i s
    | .error _ => raiseFault (.twBad w) s

/-- A step of TG: the period end, or the next word; a stall when neither is enabled (R156 to R160). -/
def tgStep (s : State) : Result :=
  if tgPeriodEndEnabled s then .next (tgPeriodEnd s)
  else if tgReady s then tgTake s
  else stall s

/-- What the oldest word of PFIFO is to POP: a LEN word in phase Len, a PAIR word in phase Pix (R181, R182). -/
def popRaw (s : State) : Option Raw :=
  match s.popPhase, s.pfifo with
  | .len, w :: _ => some (.len w)
  | .pix _, w :: _ => some (.pair w)
  | .len, [] => none
  | .pix _, [] => none
  | .wait, _ => none
  | .blank, _ => none

/-- POP takes the oldest word of PFIFO, or stalls on an empty one (R181, R182, R185). -/
def popTake (s : State) : Result :=
  match popRaw s with
  | none => stall s
  | some raw =>
    match decode raw with
    | .ok i => exec i s
    | .error _ => stall s

/-- A step of POP: the wait, the blank, or the next word (R180 to R186). -/
def popStep (s : State) : Result :=
  if popWaitEnabled s then .next (popWait s)
  else if popBlankEnabled s then .next (popBlank s)
  else popTake s

/-- A step of DMA_T (R201). -/
def dmaTStep (s : State) : Result :=
  match dmaTReady s with
  | some (k, j) => .next (dmaTTransfer k j s)
  | none => stall s

/-- A step of DMA_P (R204). -/
def dmaPStep (s : State) : Result :=
  match dmaPReady s with
  | some (b, j) => .next (dmaPTransfer b j s)
  | none => stall s

/-- SEQ_T, when enabled (R207, R210). -/
def seqTStep (s : State) : Result := if seqTEnabled s then .next (seqT s) else stall s

/-- SEQ_P, when enabled (R207, R212). -/
def seqPStep (s : State) : Result := if seqPEnabled s then .next (seqP s) else stall s

/-- One step of an agent. -/
def agentStep : Agent → State → Result
  | .tg, s => tgStep s
  | .pop, s => popStep s
  | .dmaT, s => dmaTStep s
  | .dmaP, s => dmaPStep s
  | .seqT, s => seqTStep s
  | .seqP, s => seqPStep s
  | .hostBus, s => portStep .host s
  | .prodBus, s => portStep .prod s
  | .prodLoop, s => prodLoopStep s

/-- An agent's step is enabled. A bus master's port is when it has a request; PROD's loop always is (R11, R291). -/
def agentEnabled : Agent → State → Bool
  | .tg, s => tgPeriodEndEnabled s || tgReady s
  | .pop, s => popWaitEnabled s || popBlankEnabled s || popLenReady s || (popPairReady s).isSome
  | .dmaT, s => (dmaTReady s).isSome
  | .dmaP, s => (dmaPReady s).isSome
  | .seqT, s => seqTEnabled s
  | .seqP, s => seqPEnabled s
  | .hostBus, s => !s.hostPort.requests.isEmpty
  | .prodBus, s => !s.prodPort.requests.isEmpty
  | .prodLoop, _ => true

/-- The agent picked next: the oldest of `sched`, or a free one when `sched` is empty (R11, R327; assumption 9). -/
def pickedAgent (s : State) : Agent :=
  match s.sched with
  | a :: _ => a
  | [] => Config.nextAgent s.tick

/-- The state once the pick is made. -/
def afterPick (s : State) : State :=
  match s.sched with
  | _ :: rest => { s with sched := rest }
  | [] => { s with tick := s.tick + 1 }

/-- A phase in which POP takes a PAIR word: the phase itself if it is one, else Pix(1) (assumption 21). -/
def pixPhase : PopPhase → PopPhase
  | .pix c => .pix c
  | .wait => .pix 1
  | .len => .pix 1
  | .blank => .pix 1

/-- A word or access put where the unit that takes it takes it next, and that unit picked next and able to take it (assumption 21). -/
def placeRaw (raw : Raw) (s : State) : State :=
  match raw with
  | .tw w =>
    { s with
      en := true
      tgCur := none
      tfifo := w :: s.tfifo.tail
      faults := s.faults.filter fun f => decide (f.code ≠ 6)
      sched := .tg :: s.sched }
  | .len w => { s with en := true, popPhase := .len, pfifo := w :: s.pfifo.tail, sched := .pop :: s.sched }
  | .pair w =>
    { s with en := true, popPhase := pixPhase s.popPhase, pfifo := w :: s.pfifo.tail, sched := .pop :: s.sched }
  | .bus key data =>
    { s with sched := .hostBus :: s.sched }.setRequests .host
      (.register ((key &&& 0xFFFE).setWidth 32) .word (key.getLsbD 0) data :: s.hostPort.requests)

end Sys2Proof.Machine
end

