-- ==== Sys2Proof/Machine/Step.lean ====
section
/-! DEFINITION. One step of the machine: an agent is picked and takes its step (spec/00_scope.md R11). -/

namespace Sys2Proof.Machine

/-- One step: the picked agent's, at the state in which the pick is made. A picked agent whose step is not enabled takes none (assumption 10). -/
def step (s : State) : Host.Outcome State Fault Refusal := agentStep (pickedAgent s) (afterPick s)

/-- s with the table word (assumption 22) put where the very next step takes it: at the head of TFIFO, at the head of PFIFO, or as
HOST's oldest request, that agent picked next. Assumption 21. -/
def State.withFetchWord (s : State) (nbits w : Nat) : State := placeRaw (tableRaw nbits w) s

end Sys2Proof.Machine
end

