-- ==== Sys2Proof/Safety.lean ====
section
/-! DEFINITION. What claims about the machine are stated in: which parts of the state a step left alone, the invariants, a faulted run,
a run and its fairness. -/

namespace Sys2Proof.Machine

/-! ### Frames -/

/-- The parts of State, for saying which of them an instruction may change. -/
inductive Field where
  | cfg | mode | en | tbuf | palette | clut | t | p | pbuf | clash | tDone | pDone | dmaT | dmaP | tfifo | tgCur | hs | vs | trig
  | popPhase | pfifo | rgb | buf0 | buf1 | faults | out | mem | prod | hostPort | prodPort | master | sched | tick
deriving DecidableEq, Repr

/-- A part of the state is the same in both states; of memory, every byte reads the same. -/
def Field.same (s t : State) : Field → Prop
  | .cfg => t.cfg = s.cfg
  | .mode => t.mode = s.mode
  | .en => t.en = s.en
  | .tbuf => t.tbuf = s.tbuf
  | .palette => t.palette = s.palette
  | .clut => t.clut = s.clut
  | .t => t.t = s.t
  | .p => t.p = s.p
  | .pbuf => t.pbuf = s.pbuf
  | .clash => t.clash = s.clash
  | .tDone => t.tDone = s.tDone
  | .pDone => t.pDone = s.pDone
  | .dmaT => t.dmaT = s.dmaT
  | .dmaP => t.dmaP = s.dmaP
  | .tfifo => t.tfifo = s.tfifo
  | .tgCur => t.tgCur = s.tgCur
  | .hs => t.hs = s.hs
  | .vs => t.vs = s.vs
  | .trig => t.trig = s.trig
  | .popPhase => t.popPhase = s.popPhase
  | .pfifo => t.pfifo = s.pfifo
  | .rgb => t.rgb = s.rgb
  | .buf0 => t.buf0 = s.buf0
  | .buf1 => t.buf1 = s.buf1
  | .faults => t.faults = s.faults
  | .out => t.out = s.out
  | .mem => ∀ a, t.readByte a = s.readByte a
  | .prod => t.prod = s.prod
  | .hostPort => t.hostPort = s.hostPort
  | .prodPort => t.prodPort = s.prodPort
  | .master => t.master = s.master
  | .sched => t.sched = s.sched
  | .tick => t.tick = s.tick

/-- Every part of the state but those listed is the same in both states. -/
def UnchangedExcept (changed : List Field) (s t : State) : Prop := ∀ f : Field, f ∉ changed → f.same s t

/-- The port of a bus master, as a part of the state. -/
def portField : Master → Field
  | .host => .hostPort
  | .prod => .prodPort

/-- A buffer, as a part of the state. -/
def bufField : BufId → Field
  | .buf0 => .buf0
  | .buf1 => .buf1

/-- Running i answers a next state in which the read value v has gone to the bus master whose operation it is, and nothing else has changed. -/
def Returns (i : Instr) (s : State) (v : Word) : Prop :=
  ∃ t, exec i s = .next t ∧ t.port s.master = { s.port s.master with readData := some v } ∧
    UnchangedExcept [portField s.master] s t

/-- `raise Fault(f)`: t is s with f recorded in FAULTS, and nothing else has changed (R321). -/
def Raised (f : FaultRecord) (s t : State) : Prop :=
  (∀ g, g ∈ t.faults ↔ g = f ∨ g ∈ s.faults) ∧ UnchangedExcept [.faults] s t

/-- Running i answers a next state in which f is recorded in FAULTS, and nothing else has changed (R321). -/
def Raises (i : Instr) (s : State) (f : FaultRecord) : Prop := ∃ t, exec i s = .next t ∧ Raised f s t

/-- The agent that serves a bus master's port. -/
def portAgent : Master → Agent
  | .host => .hostBus
  | .prod => .prodBus

/-- A bus operation that reads a register (R88, R127). -/
def isBusRead : Instr → Bool
  | .rdMode | .rdCtrl | .rdScanline | .rdTimingLine | .rdVisLines | .rdTextDims | .rdFbAddr | .rdClash | .rdNeedsMemory => true
  | .rdBuf0Flag | .rdBuf0Line | .rdBuf0Len | .rdBuf1Flag | .rdBuf1Line | .rdBuf1Len => true
  | .rdBuf0Pix _ | .rdBuf1Pix _ | .rdPalette _ | .rdClut _ | .rdTbuf _ _ => true
  | _ => false

/-- A write to a read-only register: the rows of R261. -/
def isReadOnlyWrite : Instr → Bool
  | .wrRoScanline _ | .wrRoTimingLine _ | .wrRoVisLines _ | .wrRoTextDims _ | .wrRoFbAddr _ | .wrRoClash _ => true
  | .wrRoNeedsMemory _ | .wrRoBuf0Line _ | .wrRoBuf0Len _ | .wrRoBuf1Line _ | .wrRoBuf1Len _ => true
  | .wrRoPalette _ _ | .wrRoClut _ _ | .wrRoTbuf _ _ _ => true
  | _ => false

/-! ### Invariants -/

/-- What MODE, PALETTE and the parameters determine is up to date: TBUF is the build of MODE (R35), PALETTE is PALETTE_INIT (R36),
CLUT is the build of PALETTE (R37), and MODE is 0 or an accepted mode (R32, R242). -/
structure TablesCurrent (s : State) : Prop where
  tbuf : s.tbuf = s.cfg.build s.mode
  palette : s.palette = s.cfg.paletteInit
  clut : s.clut = buildClut s.palette
  mode : s.cfg.Selectable s.mode

/-- The FIFOs hold at most their depths (R45, R49). -/
structure FifosBounded (s : State) : Prop where
  tfifo : s.tfifo.length ≤ s.cfg.tfifoDepth
  pfifo : s.pfifo.length ≤ s.cfg.pfifoDepth

/-- While the block is stopped nothing is armed or pending; while it runs, each channel is idle exactly when its completion is
pending, so that no completion is lost or merged (R325). -/
structure CompletionsExclusive (s : State) : Prop where
  stoppedT : s.en = false → s.dmaT = .idle ∧ s.tDone = false
  stoppedP : s.en = false → s.dmaP = .idle ∧ s.pDone = false
  runningT : s.en = true → (s.dmaT = .idle ↔ s.tDone = true)
  runningP : s.en = true → (s.dmaP = .idle ↔ s.pDone = true)

/-- The larger BP_END of the two standards; a mode change may leave T above the current one (R211). -/
def maxBpEnd (c : Params) : Nat := max (c.bpEndOf .s0) (c.bpEndOf .s1)

/-- The larger VIS of the two standards (R359). -/
def maxVis (c : Params) : Nat := max (c.vVis.get .s0) (c.vVis.get .s1)

/-- The line counters and tags are lines of one of the two standards (R38, R39, R53). -/
structure LinesInRange (s : State) : Prop where
  t : s.t.toNat < maxBpEnd s.cfg
  p : s.p.toNat < maxVis s.cfg
  line0 : s.buf0.line.toNat < maxVis s.cfg
  line1 : s.buf1.line.toNat < maxVis s.cfg

/-- Every timing word of the block is legal, so TW_BAD has not been raised (R112, R159). -/
structure TimingWordsLegal (s : State) : Prop where
  tbuf : ∀ k j, twLegal ((s.tbuf.get k).get j) = true
  tfifo : ∀ w ∈ s.tfifo, twLegal w = true
  tgCur : ∀ w, s.tgCur = some w → twLegal w = true
  notStopped : tgStopped s = false

/-- The invariant of the machine: an accepted configuration, and all of the above; memory is in its canonical form. -/
structure Inv (s : State) : Prop where
  cfg : s.cfg.ok = true
  tables : TablesCurrent s
  fifos : FifosBounded s
  completions : CompletionsExclusive s
  lines : LinesInRange s
  words : TimingWordsLegal s
  memory : Memory.wf s.cfg s.mem = true

/-- The words of a visible line: one LEN word and BUF_PAIRS PAIR words (R114). -/
def lineWordCount : Nat := bufPairs + 1

/-- How many words of its line POP has taken, by its phase (R181, R182). -/
def popPosition : PopPhase → Nat
  | .wait => 0
  | .len => 0
  | .pix c => lineWordCount - c
  | .blank => 0

/-- How many words of its line DMA_P has pushed (R204). -/
def dmaPosition : DmaP → Nat
  | .idle => 0
  | .active _ j => j

/-- The pixel stream is in step: what POP has taken plus what PFIFO holds is what DMA_P has pushed, counted in whole lines, and every
word of PFIFO that begins a line is the LEN word 319 (R54, R114, R184). -/
structure PixelStreamAligned (s : State) : Prop where
  phase : ∀ c, s.popPhase = .pix c → 1 ≤ c ∧ c ≤ bufPairs
  index : ∀ b j, s.dmaP = .active b j → j ≤ bufPairs
  count : (popPosition s.popPhase + s.pfifo.length) % lineWordCount = dmaPosition s.dmaP % lineWordCount
  lenWords : ∀ i w, s.pfifo[i]? = some w → (popPosition s.popPhase + i) % lineWordCount = 0 → w = 319

/-! ### Runs -/

/-- The run is faulted: a model fault has been recorded (R322). -/
def Faulted (s : State) : Prop := s.faults ≠ []

/-- A run: each state is the next of the one before. -/
def IsRun (run : Nat → State) : Prop := ∀ n, step (run n) = .next (run (n + 1))

/-- Weak fairness (R366): an agent whose step stays enabled is eventually picked. Assumption 32. -/
def WeaklyFair (run : Nat → State) : Prop :=
  ∀ (a : Agent) (n : Nat), (∀ k, n ≤ k → agentEnabled a (run k) = true) → ∃ k, n ≤ k ∧ pickedAgent (run k) = a

end Sys2Proof.Machine
end

