-- ==== Sys2Proof/Certificates/Slice0/Obligations.lean ====
section
/-! DEFINITION. The statements about the machine, from the numbered rules of spec/. -/

open Sys2Proof Sys2Proof.Machine

/-- Reset puts every register at the value of R58; that State.reset takes Config.params is the model's choice (logs 2 to 5 and 35) (R58, 10_state.md section 9). -/
def Obligations.ResetGivesTheSpecValues : Prop :=
  State.reset = State.resetWith Config.params ∧
  ∀ c : Params,
    let s := State.resetWith c
    s.cfg = c ∧ s.mode = 0 ∧ s.en = false ∧ s.tbuf = c.build 0 ∧ s.t = 0 ∧ s.p = 0 ∧ s.pbuf = .buf0 ∧ s.clash = 0 ∧
    s.tDone = false ∧ s.pDone = false ∧ s.dmaT = .idle ∧ s.dmaP = .idle ∧ s.tfifo = [] ∧ s.pfifo = [] ∧ s.tgCur = none ∧
    s.hs = !c.hsActive.s0 ∧ s.vs = !c.vsActive.s0 ∧ s.trig = false ∧ s.popPhase = .wait ∧ s.rgb = 0 ∧
    s.buf0.flag = false ∧ s.buf1.flag = false ∧ s.buf0.line = 0 ∧ s.buf1.line = 1 ∧
    s.buf0.len = 319 ∧ s.buf1.len = 319 ∧
    s.palette = c.paletteInit ∧ s.clut = buildClut c.paletteInit ∧ s.faults = [] ∧ s.out = []

/-- While EN = 0 no agent of the block takes a step (R34, R160, R186, R350). -/
def Obligations.StoppedBlockTakesNoStep : Prop :=
  ∀ (s : State) (a : Agent), s.en = false → a ∉ [Agent.hostBus, .prodBus, .prodLoop] →
    agentEnabled a s = false ∧ agentStep a s = .next s

/-- Words and keys of the spec decode to the instructions they stand for (R111, R113, R117, R126, 95_test_vectors.md V1-V3, V10, V11, V38b, V61, V63). -/
def Obligations.SpecWordsDecode : Prop :=
  decode (.tw 0x0C800007) = .ok (.tw true true true 3200) ∧
  decode (.tw 0x01E00002) = .ok (.tw false true false 480) ∧
  decode (.tw 0x0050000B) = .error (.twReserved 0x0050000B) ∧
  decode (.len 0x0000013F) = .ok (.len 319 0) ∧
  decode (.pair 0xF0FFA123) = .ok (.pair 0x123 0xA 0x0FF 0xF) ∧
  decode (.bus 0x0001 5) = .ok (.wrMode 5) ∧
  decode (.bus 0x0041 0) = .ok (.wrBuf0Flag 0) ∧
  decode (.bus 0x14FC 0) = .ok (.rdBuf0Pix 319) ∧
  decode (.bus 0x2001 7) = .ok (.wrBuf1Pix 0 7) ∧
  decode (.bus 0x33FC 0) = .ok (.rdPalette 255) ∧
  decode (.bus 0x40F8 0) = .ok (.rdClut 62) ∧
  decode (.bus 0x5024 0) = .ok (.rdTbuf 2 1) ∧
  decode (.bus 0x3001 0) = .ok (.wrRoPalette 0 0) ∧
  decode (.bus 0x0024 0) = .error (.unmapped 0x0024) ∧
  decode (.bus 0x2500 0) = .error (.unmapped 0x2500) ∧
  decode (.bus 0x5030 0) = .error (.unmapped 0x5030)

/-- Decoding the encoding of a well-formed instruction gives it back (R110, R111, R113, R117, R126, R127). -/
def Obligations.DecodeOfEncodeIsTheInstruction : Prop :=
  ∀ i : Instr, i.wellFormed = true → decode (encode i) = .ok i

/-- Encoding what was decoded gives the word or key back (a read's data is the model's 0, log 24) (R110, R111, R113, R117, R126, 20_memory.md R86). -/
def Obligations.EncodeOfDecodeIsTheWord : Prop :=
  (∀ (w : Word) (i : Instr), decode (.tw w) = .ok i → encode i = .tw w) ∧
  (∀ (w : Word) (i : Instr), decode (.len w) = .ok i → encode i = .len w) ∧
  (∀ (w : Word) (i : Instr), decode (.pair w) = .ok i → encode i = .pair w) ∧
  (∀ (key : Half) (data : Word) (i : Instr), decode (.bus key data) = .ok i →
    encode i = .bus key (if isBusRead i then 0 else data))

/-- No bus key matches two rows of the opcode table (R126, 30_encoding.md section 2). -/
def Obligations.NoTwoBusRowsOverlap : Prop :=
  ∀ (key : Half) (r₁ r₂ : RowPattern), r₁ ∈ busTable → r₂ ∈ busTable → r₁.hits key = true → r₂.hits key = true → r₁ = r₂

/-- A step of TG runs the instruction of the word at the head of TFIFO (R11, R156). -/
def Obligations.StepRunsTheTimingWord : Prop :=
  ∀ (s : State) (rest : List Agent) (w : Word) (ws : List Word) (i : Instr),
    s.sched = .tg :: rest → tgReady s = true → s.tfifo = w :: ws → decode (.tw w) = .ok i →
    step s = exec i { s with sched := rest }

/-- A step of POP runs the instruction of the word at the head of PFIFO (R11, R181, R182). -/
def Obligations.StepRunsThePixelWord : Prop :=
  ∀ (s : State) (rest : List Agent) (w : Word) (ws : List Word) (i : Instr),
    s.sched = .pop :: rest → s.en = true → s.pfifo = w :: ws →
    (s.popPhase = .len ∧ decode (.len w) = .ok i) ∨ ((∃ c, s.popPhase = .pix c) ∧ decode (.pair w) = .ok i) →
    step s = exec i { s with sched := rest }

/-- A step of a bus master's port runs the instruction its access decodes to (R126, R240). -/
def Obligations.StepRunsTheBusOperation : Prop :=
  ∀ (s : State) (m : Master) (rest : List Agent) (rs : List Request) (offset data : Word) (write : Bool) (i : Instr),
    s.cfg.ok = true → s.sched = portAgent m :: rest →
    (s.port m).requests = .register offset .word write data :: rs ∨
      (s.port m).requests = .address (s.cfg.vidBase + offset) .word write data :: rs →
    offset.toNat % 4 = 0 → offset.toNat < 0x10000 → decode (.bus (busKey offset write) data) = .ok i →
    step s = exec i { ({ s with sched := rest } : State).setRequests m rs with master := m }

/-- TW drives the pins and may set TRIG; a bad word stays in TFIFO (inferred: logs 12, 23); not enabled, no step (log 28), OUT unchanged (model's choice, log 15) (R11, R156, R158, R159, R160, R321). -/
def Obligations.TimingWordStartsItsPeriod : Prop :=
  (∀ w : Word, w.extractLsb' 3 13 = 0 →
    decode (.tw w) = .ok (.tw (w.getLsbD 0) (w.getLsbD 1) (w.getLsbD 2) (w.extractLsb' 16 16))) ∧
  (∀ (s : State) (hs vs trig : Bool) (period : Half),
    s.en = true → s.tgCur = none → s.tfifo ≠ [] → tgStopped s = false → period ≠ 0 →
    ∃ t, exec (.tw hs vs trig period) s = .next t ∧ t.tfifo = s.tfifo.tail ∧ t.hs = hs ∧ t.vs = vs ∧
      t.trig = (s.trig || trig) ∧ t.tgCur = some (twWord hs vs trig period) ∧
      t.out = s.out ++ [.syncPins hs vs period.toNat] ∧
      UnchangedExcept [.tfifo, .hs, .vs, .trig, .tgCur, .out] s t) ∧
  (∀ (s : State) (hs vs trig : Bool), s.en = true → s.tgCur = none → s.tfifo ≠ [] → tgStopped s = false →
    Raises (.tw hs vs trig 0) s (.twBad (twWord hs vs trig 0))) ∧
  (∀ (s : State) (w : Word) (ws : List Word), s.en = true → s.tgCur = none → s.tfifo = w :: ws → tgStopped s = false →
    twLegal w = false → ∃ t, agentStep .tg s = .next t ∧ Raised (.twBad w) s t) ∧
  (∀ (s : State) (hs vs trig : Bool) (period : Half), s.en = false ∨ s.tgCur ≠ none ∨ s.tfifo = [] →
    exec (.tw hs vs trig period) s = .next s)

/-- After TW_BAD, TG takes no further step (R159, R322). -/
def Obligations.TwBadStopsTheGenerator : Prop :=
  ∀ (s t : State) (w : Word), FaultRecord.twBad w ∈ s.faults →
    agentStep .tg s = .next s ∧ (step s = .next t → FaultRecord.twBad w ∈ t.faults ∧ t.hs = s.hs ∧ t.vs = s.vs)

/-- The period end sets TG_CUR to none and changes nothing else (R157). -/
def Obligations.PeriodEndFreesTheGenerator : Prop :=
  ∀ (s : State) (w : Word), s.en = true → tgStopped s = false → s.tgCur = some w →
    agentEnabled .tg s = true ∧ ∃ t, agentStep .tg s = .next t ∧ t.tgCur = none ∧ UnchangedExcept [.tgCur] s t

/-- TG and POP stall on an empty FIFO with their pins held; that OUT records nothing of the stall is the model's choice (log 15) (R158, R185, R361). -/
def Obligations.EmptyFifosStallTheirUnits : Prop :=
  ∀ s : State,
    (s.tgCur = none → s.tfifo = [] → agentStep .tg s = .next s) ∧
    ((s.popPhase = .len ∨ ∃ c, s.popPhase = .pix c) → s.pfifo = [] → agentStep .pop s = .next s)

/-- POP leaves Wait when TRIG is set, and clears it (R180). -/
def Obligations.PopWaitsForTheTrigger : Prop :=
  ∀ s : State, s.en = true → s.popPhase = .wait →
    (s.trig = true → agentEnabled .pop s = true ∧ ∃ t, agentStep .pop s = .next t ∧ t.trig = false ∧ t.popPhase = .len ∧
      UnchangedExcept [.trig, .popPhase] s t) ∧
    (s.trig = false → agentEnabled .pop s = false ∧ agentStep .pop s = .next s)

/-- LEN gives N + 1 pixel pairs to come; not enabled, no step (inferred, log 28) and OUT unchanged (the model's choice, log 15) (R11, R181, R185, R186). -/
def Obligations.LenStartsALine : Prop :=
  (∀ w : Word, decode (.len w) = .ok (.len (w.extractLsb' 0 16) (w.extractLsb' 16 16))) ∧
  ∀ (s : State) (n ign : Half),
    (s.en = true → s.popPhase = .len → s.pfifo ≠ [] →
      ∃ t, exec (.len n ign) s = .next t ∧ t.pfifo = s.pfifo.tail ∧ t.popPhase = .pix (n.toNat + 1) ∧
        UnchangedExcept [.pfifo, .popPhase] s t) ∧
    (s.en = false ∨ s.popPhase ≠ .len ∨ s.pfifo = [] → exec (.len n ign) s = .next s)

/-- PAIR emits pixel 0 then pixel 1, each for CPP cycles (R182). -/
def Obligations.PairEmitsTwoPixels : Prop :=
  (∀ w : Word, ∃ lo hi : BitVec 4, decode (.pair w) = .ok (.pair (w.extractLsb' 0 12) lo (w.extractLsb' 16 12) hi)) ∧
  ∀ (s : State) (c : Nat) (p0 p1 : Colour) (lo hi : BitVec 4), s.en = true → s.popPhase = .pix c → s.pfifo ≠ [] →
    ∃ t, exec (.pair p0 lo p1 hi) s = .next t ∧ t.pfifo = s.pfifo.tail ∧ t.rgb = p1 ∧
      t.out = s.out ++ [.rgbPins p0 s.cfg.cpp, .rgbPins p1 s.cfg.cpp] ∧
      t.popPhase = (if c = 1 then .blank else .pix (c - 1)) ∧
      UnchangedExcept [.pfifo, .rgb, .out, .popPhase] s t

/-- The blank step drives colour 0 and returns to Wait (R183). -/
def Obligations.BlankEndsALine : Prop :=
  ∀ s : State, s.en = true → s.popPhase = .blank →
    ∃ t, agentStep .pop s = .next t ∧ t.rgb = 0 ∧ t.out = s.out ++ [.rgbPins 0 0] ∧ t.popPhase = .wait ∧
      UnchangedExcept [.rgb, .out, .popPhase] s t

/-- DMA_T pushes TBUF[k][j] and, after word 3, sets T_DONE (R201). -/
def Obligations.DmaTMovesATimingWord : Prop :=
  ∀ (s : State) (k : Category) (j : Slot), s.en = true → s.dmaT = .active k j →
    (s.tfifo.length < s.cfg.tfifoDepth →
      ∃ t, agentStep .dmaT s = .next t ∧ t.tfifo = s.tfifo ++ [(s.tbuf.get k).get j] ∧
        (j = .fp → t.dmaT = .active k .sync ∧ t.tDone = s.tDone) ∧
        (j = .sync → t.dmaT = .active k .bp ∧ t.tDone = s.tDone) ∧
        (j = .bp → t.dmaT = .active k .vis ∧ t.tDone = s.tDone) ∧
        (j = .vis → t.dmaT = .idle ∧ t.tDone = true) ∧
        UnchangedExcept [.tfifo, .dmaT, .tDone] s t) ∧
    (s.cfg.tfifoDepth ≤ s.tfifo.length → agentStep .dmaT s = .next s)

/-- DMA_P pushes LEN, then the 320 pixel words, then sets P_DONE (R204). -/
def Obligations.DmaPMovesABufferWord : Prop :=
  ∀ (s : State) (b : BufId) (j : Nat), s.en = true → s.dmaP = .active b j → j ≤ bufPairs →
    (s.pfifo.length < s.cfg.pfifoDepth →
      ∃ t w, agentStep .dmaP s = .next t ∧ t.pfifo = s.pfifo ++ [w] ∧
        (j = 0 → w = 0x0000013F) ∧ (0 < j → (s.buf b).pixel (j - 1) = some w) ∧
        (j = bufPairs → t.dmaP = .idle ∧ t.pDone = true) ∧
        (j < bufPairs → t.dmaP = .active b (j + 1) ∧ t.pDone = s.pDone) ∧
        UnchangedExcept [.pfifo, .dmaP, .pDone] s t) ∧
    (s.cfg.pfifoDepth ≤ s.pfifo.length → agentStep .dmaP s = .next s)

/-- SEQ_T advances T with a wrap at BP_END and arms DMA_T from its category (R210). -/
def Obligations.SeqTAdvancesTheTimingLine : Prop :=
  ∀ s : State, s.cfg.ok = true → s.cfg.Selectable s.mode → s.en = true → s.tDone = true →
    ∃ t, agentStep .seqT s = .next t ∧ t.tDone = false ∧
      t.t.toNat = (if s.t.toNat + 1 ≥ s.cfg.bpEnd s.mode then 0 else s.t.toNat + 1) ∧
      t.dmaT = .active (s.cfg.category s.mode t.t.toNat) .fp ∧ t.out = s.out ++ [.event] ∧
      UnchangedExcept [.tDone, .t, .dmaT, .out] s t ∧
      (s.mode = 0 → s.cfg.vVis.s0 = 480 → 0 < s.cfg.vFp.s0 → s.t = 479 → t.t = 480 ∧ t.dmaT = .active .porch .fp)

/-- SEQ_P advances P, counts a clash, arms the next buffer and hands the finished one back (R212, R213, R214). -/
def Obligations.SeqPHandsTheBuffersOver : Prop :=
  ∀ s : State, s.cfg.ok = true → s.cfg.Selectable s.mode → s.en = true → s.pDone = true →
    ∃ t, agentStep .seqP s = .next t ∧
      let nb : BufId := if t.p.toNat % 2 = 0 then .buf0 else .buf1
      t.pDone = false ∧
      t.p.toNat = (if s.p.toNat + 1 ≥ s.cfg.vis s.mode then 0 else s.p.toNat + 1) ∧
      t.clash = (if (s.buf nb).flag = true then s.clash + 1 else s.clash) ∧
      t.dmaP = .active nb 0 ∧ t.pbuf = nb ∧
      (t.buf s.pbuf).line.toNat = (t.p.toNat + 1) % s.cfg.vis s.mode ∧
      (t.buf s.pbuf).flag = true ∧ (t.buf s.pbuf).pix = (s.buf s.pbuf).pix ∧
      t.out = s.out ++ [.event] ∧
      UnchangedExcept [.pDone, .p, .clash, .dmaP, .pbuf, .out, bufField s.pbuf] s t

/-- SEQ_T and SEQ_P give the same state in either order (R208). -/
def Obligations.SequencerStepsCommute : Prop :=
  ∀ s : State, seqTEnabled s = true → seqPEnabled s = true →
    bindNext (agentStep .seqT s) (agentStep .seqP) = bindNext (agentStep .seqP s) (agentStep .seqT)

/-- Without a mode change the buffers alternate and each gets tags of its own parity (R217). -/
def Obligations.BuffersAlternateByParity : Prop :=
  ∀ s t : State, s.cfg.ok = true → s.cfg.Selectable s.mode → s.p.toNat < s.cfg.vis s.mode → s.pbuf = bufOfLine s.p.toNat → seqPEnabled s = true →
    agentStep .seqP s = .next t →
    t.p.toNat < t.cfg.vis t.mode ∧ t.pbuf = bufOfLine t.p.toNat ∧ t.pbuf = s.pbuf.other ∧
    (t.buf s.pbuf).line.toNat < t.cfg.vis t.mode ∧ bufOfLine (t.buf s.pbuf).line.toNat = s.pbuf

/-- Without a mode change the timing lines run through 0..BP_END-1 and begin again (R162, R210). -/
def Obligations.TimingLinesCycle : Prop :=
  ∀ (c : Params) (m : Word) (n : Nat), c.ok = true → c.Selectable m → (c.nextTimingLine m)^[n] 0 = n % c.bpEnd m

/-- The category of a timing line is given by the four boundaries (R161). -/
def Obligations.CategoryByTimingLine : Prop :=
  ∀ (c : Params) (m : Word) (t : Nat),
    (t < c.vis m → c.category m t = .visible) ∧
    (c.vis m ≤ t → t < c.fpEnd m → c.category m t = .porch) ∧
    (c.fpEnd m ≤ t → t < c.syncEnd m → c.category m t = .sync) ∧
    (c.syncEnd m ≤ t → c.category m t = .porch) ∧
    c.vis m ≤ c.fpEnd m ∧ c.fpEnd m ≤ c.syncEnd m ∧ c.syncEnd m ≤ c.bpEnd m

/-- The twelve words of the timing-buffer build, field by field (R152, R153, R154). -/
def Obligations.TimingBufferFields : Prop :=
  ∀ (c : Params) (m : Word) (k : Category) (j : Slot), c.ok = true →
    let s := modeStd m
    let w := ((c.build m).get k).get j
    ((twPeriod w).toNat : Int) = ((c.hPixels.get j * c.cpp : Nat) : Int) + (c.corr.get s).get j ∧
    twHs w = (if j = .sync then c.hsActive.get s else !c.hsActive.get s) ∧
    twVs w = (if k = .sync then c.vsActive.get s else !c.vsActive.get s) ∧
    twTrig w = decide (k = .visible ∧ j = .vis) ∧
    twReserved w = 0

/-- Every CLUT entry is the pair of palette colours its attribute and pattern select (R290). -/
def Obligations.ClutEntriesArePaletteColours : Prop :=
  (∀ (palette : Vector Colour 256) (a : BitVec 7) (p : BitVec 2),
    let e := clutAt (buildClut palette) (clutIndex a p)
    let fg := colourAt palette (a.toNat % 16)
    let bg := colourAt palette (a.toNat / 16)
    (clutIndex a p).toNat = 4 * a.toNat + p.toNat ∧
    pairPix0 e = (if p.getLsbD 1 then fg else bg) ∧ pairPix1 e = (if p.getLsbD 0 then fg else bg) ∧
    pairIgnLo e = 0 ∧ pairIgnHi e = 0) ∧
  (∀ p₁ p₂ : Vector Colour 256, (∀ n, n < 16 → colourAt p₁ n = colourAt p₂ n) → buildClut p₁ = buildClut p₂)

/-- RD_MODE returns MODE and RD_CTRL returns EN (R241, R243). -/
def Obligations.ModeAndControlReads : Prop :=
  decode (.bus 0x0000 0) = .ok .rdMode ∧ decode (.bus 0x0004 0) = .ok .rdCtrl ∧
  (∀ s : State, Returns .rdMode s s.mode ∧ Returns .rdCtrl s (if s.en then 1 else 0)) ∧
  Returns .rdMode State.reset 0

/-- RD_TIMING_LINE, RD_SCANLINE and RD_CLASH return T, P and CLASH (R245, R246, R250). -/
def Obligations.CounterReads : Prop :=
  decode (.bus 0x000C 0) = .ok .rdTimingLine ∧ decode (.bus 0x0008 0) = .ok .rdScanline ∧
  decode (.bus 0x001C 0) = .ok .rdClash ∧
  ∀ s : State,
    (∃ v, Returns .rdTimingLine s v ∧ v.toNat = s.t.toNat) ∧ (∃ v, Returns .rdScanline s v ∧ v.toNat = s.p.toNat) ∧
    Returns .rdClash s s.clash

/-- RD_VIS_LINES, RD_TEXT_DIMS, RD_FB_ADDR and RD_NEEDS_MEMORY return VIS, the text size, GRID_BASE and 0 (R247, R248, R249, R260). -/
def Obligations.GeometryReads : Prop :=
  decode (.bus 0x0010 0) = .ok .rdVisLines ∧ decode (.bus 0x0014 0) = .ok .rdTextDims ∧
  decode (.bus 0x0018 0) = .ok .rdFbAddr ∧ decode (.bus 0x0020 0) = .ok .rdNeedsMemory ∧
  ∀ s : State,
    (∃ v, Returns .rdVisLines s v ∧ (s.cfg.vVis = { s0 := 480, s1 := 400 } → v = if s.mode.getLsbD 0 then 400 else 480) ∧
      (s.cfg.ok = true → s.cfg.Selectable s.mode → v.toNat = s.cfg.vis s.mode)) ∧
    (∃ v, Returns .rdTextDims s v ∧ (s.cfg.ok = true → s.cfg.Selectable s.mode →
      v.toNat = s.cfg.vis s.mode / fontHeight s.mode * 256 + modeColumns s.mode ∧ v.toNat < 2 ^ 16)) ∧
    Returns .rdFbAddr s s.cfg.gridBase ∧ (s.cfg.ok = true → s.cfg.gridBase ≠ 0) ∧ Returns .rdNeedsMemory s 0

/-- RD_BUF_FLAG, RD_BUF_LINE and RD_BUF_LEN return the flag, the tag and 319 (R252, R253, R254). -/
def Obligations.BufferRegisterReads : Prop :=
  decode (.bus 0x0040 0) = .ok .rdBuf0Flag ∧ decode (.bus 0x0050 0) = .ok .rdBuf1Flag ∧
  decode (.bus 0x0044 0) = .ok .rdBuf0Line ∧ decode (.bus 0x0054 0) = .ok .rdBuf1Line ∧
  decode (.bus 0x0048 0) = .ok .rdBuf0Len ∧ decode (.bus 0x0058 0) = .ok .rdBuf1Len ∧
  ∀ s : State,
    Returns .rdBuf0Flag s (if s.buf0.flag then 1 else 0) ∧ Returns .rdBuf1Flag s (if s.buf1.flag then 1 else 0) ∧
    (∃ v, Returns .rdBuf0Line s v ∧ v.toNat = s.buf0.line.toNat) ∧
    (∃ v, Returns .rdBuf1Line s v ∧ v.toNat = s.buf1.line.toNat) ∧
    Returns .rdBuf0Len s 0x0000013F ∧ Returns .rdBuf1Len s 0x0000013F

/-- RD_BUF_PIX returns PIX[i]; an index past the window's end is unmapped (as a term of Instr: inferred, log 31) (R87, R240, R255). -/
def Obligations.PixelReads : Prop :=
  ∀ (s : State) (i : BitVec 9),
    (i.toNat < 320 →
      decode (.bus (0x1000 + BitVec.ofNat 16 (4 * i.toNat)) 0) = .ok (.rdBuf0Pix i) ∧
      decode (.bus (0x2000 + BitVec.ofNat 16 (4 * i.toNat)) 0) = .ok (.rdBuf1Pix i) ∧
      (∃ v, s.buf0.pixel i.toNat = some v ∧ Returns (.rdBuf0Pix i) s v) ∧
      (∃ v, s.buf1.pixel i.toNat = some v ∧ Returns (.rdBuf1Pix i) s v)) ∧
    (320 ≤ i.toNat →
      decode (.bus (0x1000 + BitVec.ofNat 16 (4 * i.toNat)) 0) = .error (.unmapped (0x1000 + BitVec.ofNat 16 (4 * i.toNat))) ∧
      decode (.bus (0x2000 + BitVec.ofNat 16 (4 * i.toNat)) 0) = .error (.unmapped (0x2000 + BitVec.ofNat 16 (4 * i.toNat))) ∧
      Raises (.rdBuf0Pix i) s (.unmapped s.master (0x1000 + BitVec.ofNat 32 (4 * i.toNat)) false) ∧
      Raises (.rdBuf1Pix i) s (.unmapped s.master (0x2000 + BitVec.ofNat 32 (4 * i.toNat)) false))

/-- RD_PALETTE, RD_CLUT and RD_TBUF return the table entries; TBUF category 3 is unmapped (as a term of Instr: inferred, log 31) (R87, R240, R257, R258, R259). -/
def Obligations.TableReads : Prop :=
  (∀ (s : State) (i : BitVec 8), decode (.bus (0x3000 + BitVec.ofNat 16 (4 * i.toNat)) 0) = .ok (.rdPalette i) ∧
    ∃ v, Returns (.rdPalette i) s v ∧ v.toNat = (s.palette[i.toNat]'i.isLt).toNat) ∧
  (∀ (s : State) (i : BitVec 9), decode (.bus (0x4000 + BitVec.ofNat 16 (4 * i.toNat)) 0) = .ok (.rdClut i) ∧
    Returns (.rdClut i) s (s.clut[i.toNat]'i.isLt)) ∧
  (∀ (s : State) (k : Category) (j : Slot),
    decode (.bus (0x5000 + BitVec.ofNat 16 (16 * k.index.toNat + 4 * j.index.toNat)) 0) = .ok (.rdTbuf k.index j.index) ∧
    Returns (.rdTbuf k.index j.index) s ((s.tbuf.get k).get j)) ∧
  (∀ (s : State) (j : BitVec 2),
    decode (.bus (0x5030 + BitVec.ofNat 16 (4 * j.toNat)) 0) = .error (.unmapped (0x5030 + BitVec.ofNat 16 (4 * j.toNat))) ∧
    Raises (.rdTbuf 3 j) s (.unmapped s.master (0x5030 + BitVec.ofNat 32 (4 * j.toNat)) false))

/-- WR_MODE takes an accepted mode and rebuilds TBUF in one step; any other value changes nothing (R242). -/
def Obligations.ModeWriteAcceptsOrChangesNothing : Prop :=
  (∀ v : Word, decode (.bus 0x0001 v) = .ok (.wrMode v)) ∧
  ∀ (s : State) (v : Word),
    (v ∈ s.cfg.acceptedModes →
      ∃ t, exec (.wrMode v) s = .next t ∧ t.mode = v ∧ t.tbuf = s.cfg.build v ∧ UnchangedExcept [.mode, .tbuf] s t ∧
        exec (.wrMode v) t = .next t) ∧
    (v ∉ s.cfg.acceptedModes → exec (.wrMode v) s = .next s)

/-- WR_CTRL starts the block once; a reserved bit faults (R244). -/
def Obligations.ControlWriteStartsTheBlock : Prop :=
  (∀ v : Word, decode (.bus 0x0005 v) = .ok (.wrCtrl v)) ∧
  ∀ (s : State) (v : Word),
    (v = 1 → s.en = false →
      ∃ t, exec (.wrCtrl v) s = .next t ∧ t.en = true ∧ t.dmaT = .active (s.cfg.category s.mode s.t.toNat) .fp ∧
        t.dmaP = .active (bufOfLine s.p.toNat) 0 ∧ t.pbuf = bufOfLine s.p.toNat ∧
        UnchangedExcept [.en, .dmaT, .dmaP, .pbuf] s t) ∧
    (v = 0 ∨ (v = 1 ∧ s.en = true) → exec (.wrCtrl v) s = .next s) ∧
    (2 ≤ v.toNat → Raises (.wrCtrl v) s (.ctrlReserved v))

/-- WR_BUF_FLAG 0 clears the flag; any other value faults (R251). -/
def Obligations.FlagWriteReleasesTheBuffer : Prop :=
  (∀ v : Word, decode (.bus 0x0041 v) = .ok (.wrBuf0Flag v) ∧ decode (.bus 0x0051 v) = .ok (.wrBuf1Flag v)) ∧
  ∀ s : State,
    (∃ t, exec (.wrBuf0Flag 0) s = .next t ∧ t.buf0.flag = false ∧ t.buf0.line = s.buf0.line ∧ t.buf0.pix = s.buf0.pix ∧
      UnchangedExcept [.buf0] s t ∧ (s.buf0.flag = false → t = s)) ∧
    (∃ t, exec (.wrBuf1Flag 0) s = .next t ∧ t.buf1.flag = false ∧ t.buf1.line = s.buf1.line ∧ t.buf1.pix = s.buf1.pix ∧
      UnchangedExcept [.buf1] s t ∧ (s.buf1.flag = false → t = s)) ∧
    (∀ v : Word, v ≠ 0 →
      Raises (.wrBuf0Flag v) s (.flagSet s.master .buf0 v) ∧ Raises (.wrBuf1Flag v) s (.flagSet s.master .buf1 v))

/-- WR_BUF_PIX stores one pair, whatever the flag holds; an index past the window's end is unmapped (as a term of Instr: inferred, log 31) (R87, R240, R256). -/
def Obligations.PixelWritesStoreOnePair : Prop :=
  ∀ (s : State) (i : BitVec 9) (v : Word),
    (i.toNat < 320 →
      decode (.bus (0x1001 + BitVec.ofNat 16 (4 * i.toNat)) v) = .ok (.wrBuf0Pix i v) ∧
      decode (.bus (0x2001 + BitVec.ofNat 16 (4 * i.toNat)) v) = .ok (.wrBuf1Pix i v) ∧
      (∃ t, exec (.wrBuf0Pix i v) s = .next t ∧ t.buf0.pixel i.toNat = some v ∧
        (∀ j, j ≠ i.toNat → t.buf0.pixel j = s.buf0.pixel j) ∧ t.buf0.flag = s.buf0.flag ∧ t.buf0.line = s.buf0.line ∧
        UnchangedExcept [.buf0] s t) ∧
      (∃ t, exec (.wrBuf1Pix i v) s = .next t ∧ t.buf1.pixel i.toNat = some v ∧
        (∀ j, j ≠ i.toNat → t.buf1.pixel j = s.buf1.pixel j) ∧ t.buf1.flag = s.buf1.flag ∧ t.buf1.line = s.buf1.line ∧
        UnchangedExcept [.buf1] s t)) ∧
    (320 ≤ i.toNat →
      decode (.bus (0x1001 + BitVec.ofNat 16 (4 * i.toNat)) v) = .error (.unmapped (0x1001 + BitVec.ofNat 16 (4 * i.toNat))) ∧
      decode (.bus (0x2001 + BitVec.ofNat 16 (4 * i.toNat)) v) = .error (.unmapped (0x2001 + BitVec.ofNat 16 (4 * i.toNat))) ∧
      Raises (.wrBuf0Pix i v) s (.unmapped s.master (0x1000 + BitVec.ofNat 32 (4 * i.toNat)) true) ∧
      Raises (.wrBuf1Pix i v) s (.unmapped s.master (0x2000 + BitVec.ofNat 32 (4 * i.toNat)) true))

/-- A write to a read-only register raises RO_WRITE, to TBUF category 3 UNMAPPED (as a term of Instr: inferred, log 31), and changes nothing (R87, R240, R261). -/
def Obligations.ReadOnlyWritesFault : Prop :=
  ∀ (s : State) (v : Word),
    (decode (.bus 0x0009 v) = .ok (.wrRoScanline v) ∧ Raises (.wrRoScanline v) s (.roWrite s.master 0x0008)) ∧
    (decode (.bus 0x000D v) = .ok (.wrRoTimingLine v) ∧ Raises (.wrRoTimingLine v) s (.roWrite s.master 0x000C)) ∧
    (decode (.bus 0x0011 v) = .ok (.wrRoVisLines v) ∧ Raises (.wrRoVisLines v) s (.roWrite s.master 0x0010)) ∧
    (decode (.bus 0x0015 v) = .ok (.wrRoTextDims v) ∧ Raises (.wrRoTextDims v) s (.roWrite s.master 0x0014)) ∧
    (decode (.bus 0x0019 v) = .ok (.wrRoFbAddr v) ∧ Raises (.wrRoFbAddr v) s (.roWrite s.master 0x0018)) ∧
    (decode (.bus 0x001D v) = .ok (.wrRoClash v) ∧ Raises (.wrRoClash v) s (.roWrite s.master 0x001C)) ∧
    (decode (.bus 0x0021 v) = .ok (.wrRoNeedsMemory v) ∧ Raises (.wrRoNeedsMemory v) s (.roWrite s.master 0x0020)) ∧
    (decode (.bus 0x0045 v) = .ok (.wrRoBuf0Line v) ∧ Raises (.wrRoBuf0Line v) s (.roWrite s.master 0x0044)) ∧
    (decode (.bus 0x0049 v) = .ok (.wrRoBuf0Len v) ∧ Raises (.wrRoBuf0Len v) s (.roWrite s.master 0x0048)) ∧
    (decode (.bus 0x0055 v) = .ok (.wrRoBuf1Line v) ∧ Raises (.wrRoBuf1Line v) s (.roWrite s.master 0x0054)) ∧
    (decode (.bus 0x0059 v) = .ok (.wrRoBuf1Len v) ∧ Raises (.wrRoBuf1Len v) s (.roWrite s.master 0x0058)) ∧
    (∀ i : BitVec 8, decode (.bus (0x3001 + BitVec.ofNat 16 (4 * i.toNat)) v) = .ok (.wrRoPalette i v) ∧
      Raises (.wrRoPalette i v) s (.roWrite s.master (0x3000 + BitVec.ofNat 32 (4 * i.toNat)))) ∧
    (∀ i : BitVec 9, decode (.bus (0x4001 + BitVec.ofNat 16 (4 * i.toNat)) v) = .ok (.wrRoClut i v) ∧
      Raises (.wrRoClut i v) s (.roWrite s.master (0x4000 + BitVec.ofNat 32 (4 * i.toNat)))) ∧
    (∀ k j : BitVec 2, k ≠ 3 →
      decode (.bus (0x5001 + BitVec.ofNat 16 (16 * k.toNat + 4 * j.toNat)) v) = .ok (.wrRoTbuf k j v) ∧
      Raises (.wrRoTbuf k j v) s (.roWrite s.master (0x5000 + BitVec.ofNat 32 (16 * k.toNat + 4 * j.toNat)))) ∧
    (∀ j : BitVec 2,
      decode (.bus (0x5031 + BitVec.ofNat 16 (4 * j.toNat)) v) = .error (.unmapped (0x5031 + BitVec.ofNat 16 (4 * j.toNat))) ∧
      Raises (.wrRoTbuf 3 j v) s (.unmapped s.master (0x5030 + BitVec.ofNat 32 (4 * j.toNat)) true))

/-- A bus access reports BAD_ACCESS first, then UNMAPPED, then what its operation raises (R323). -/
def Obligations.BusChecksComeInOrder : Prop :=
  ∀ (m : Master) (offset data : Word) (width : Width) (write : Bool) (s : State),
    (width ≠ .word ∨ offset.toNat % 4 ≠ 0 →
      ∃ t, accessWindow m offset width write data s = .next t ∧ Raised (.badAccess m offset width.bytes) s t) ∧
    (width = .word → offset.toNat % 4 = 0 →
      (0x10000 ≤ offset.toNat ∨ (∃ e, decode (.bus (busKey offset write) data) = .error e) →
        ∃ t, accessWindow m offset width write data s = .next t ∧ Raised (.unmapped m offset write) s t) ∧
      (∀ i, offset.toNat < 0x10000 → decode (.bus (busKey offset write) data) = .ok i →
        accessWindow m offset width write data s = exec i { s with master := m } ∧
        (isReadOnlyWrite i = true → Raises i { s with master := m } (.roWrite m offset)) ∧
        (i = .wrBuf0Flag data → data ≠ 0 → Raises i { s with master := m } (.flagSet m .buf0 data)) ∧
        (i = .wrBuf1Flag data → data ≠ 0 → Raises i { s with master := m } (.flagSet m .buf1 data)) ∧
        (i = .wrCtrl data → 2 ≤ data.toNat → Raises i { s with master := m } (.ctrlReserved data))))

/-- No step removes a fault, clears EN, or changes PALETTE, CLUT or the parameters (that these are a field no step changes: inferred from R7, log 1) (R7, R34, R36, R37, R322). -/
def Obligations.FaultsArePermanentAndEnIsSetOnly : Prop :=
  ∀ s t : State, step s = .next t →
    (∀ f, f ∈ s.faults → f ∈ t.faults) ∧ (s.en = true → t.en = true) ∧
    t.palette = s.palette ∧ t.clut = s.clut ∧ t.cfg = s.cfg

/-- T changes only by SEQ_T; P, CLASH, a tag, and a flag set, only by SEQ_P (R38, R39, R40, R41, R52, R53, R218). -/
def Obligations.OnlyTheSequencerAdvancesTheLines : Prop :=
  ∀ s t : State, step s = .next t →
    (t.t ≠ s.t → pickedAgent s = .seqT ∧ s.tDone = true) ∧
    (t.p ≠ s.p ∨ t.clash ≠ s.clash → pickedAgent s = .seqP ∧ s.pDone = true) ∧
    (∀ b, (t.buf b).line ≠ (s.buf b).line ∨ ((s.buf b).flag = false ∧ (t.buf b).flag = true) → pickedAgent s = .seqP) ∧
    (t.pbuf ≠ s.pbuf → pickedAgent s = .seqP ∨ s.en = false)

/-- HS and VS change only by TG, RGB only by POP; TRIG is set by TG and cleared by POP (R32, R35, R46, R47, R50). -/
def Obligations.OnlyTheUnitsDriveThePins : Prop :=
  ∀ s t : State, step s = .next t →
    (t.hs ≠ s.hs ∨ t.vs ≠ s.vs ∨ (s.trig = false ∧ t.trig = true) → pickedAgent s = .tg) ∧
    (t.rgb ≠ s.rgb ∨ (s.trig = true ∧ t.trig = false) → pickedAgent s = .pop) ∧
    (t.mode ≠ s.mode ∨ t.tbuf ≠ s.tbuf → pickedAgent s = .hostBus ∨ pickedAgent s = .prodBus)

/-- A bus read changes nothing of the block and is idempotent (R88). -/
def Obligations.ReadsHaveNoSideEffects : Prop :=
  ∀ (i : Instr) (s : State), isBusRead i = true → i.wellFormed = true →
    ∃ t, exec i s = .next t ∧ UnchangedExcept [portField s.master] s t ∧ exec i t = .next t

/-- Every instruction runs in every state (logs 11, 28, 31); bus memory, T, P, CLASH, the parameters, PROD's place and sched stay (logs 1, 9, 19) (R36, R37, R38, R39, R41, R42, R81, R88). -/
def Obligations.InstructionsLeaveBusMemoryAlone : Prop :=
  ∀ (i : Instr) (s : State), ∃ t, exec i s = .next t ∧
    (∀ a, t.readByte a = s.readByte a) ∧ t.cfg = s.cfg ∧ t.palette = s.palette ∧ t.clut = s.clut ∧ t.t = s.t ∧ t.p = s.p ∧
    t.clash = s.clash ∧ t.tDone = s.tDone ∧ t.pDone = s.pDone ∧ t.prod = s.prod ∧ t.sched = s.sched

/-- An ordinary write stores its bytes little-endian and leaves the rest alone (any alignment, any address outside the window: the model's choice, logs 27, 36, 37) (R10, R80, R82). -/
def Obligations.MemoryWritesAreLittleEndian : Prop :=
  ∀ (m : Master) (a v : Word) (w : Width) (s : State),
    touchesWindow s.cfg a.toNat w.bytes = false → a.toNat + w.bytes ≤ 2 ^ 32 →
    ∃ t, accessAddress m a w true v s = .next t ∧
      (∀ k, k < w.bytes → t.readByte (a.toNat + k) = v.extractLsb' (8 * k) 8) ∧
      (∀ x, x < a.toNat ∨ a.toNat + w.bytes ≤ x → t.readByte x = s.readByte x) ∧
      UnchangedExcept [.mem] s t ∧
      ∃ u, accessAddress m a w false 0 t = .next u ∧
        (u.port m).readData = some (BitVec.ofNat 32 (v.toNat % 2 ^ (8 * w.bytes)))

/-- An ordinary access past the top of the bus space stops with its fault (the model's choice, log 25) (20_memory.md section 1 (R80)). -/
def Obligations.AccessPastTheBusSpaceFaults : Prop :=
  ∀ (m : Master) (a v : Word) (w : Width) (write : Bool) (s : State),
    touchesWindow s.cfg a.toNat w.bytes = false → 2 ^ 32 < a.toNat + w.bytes →
    accessAddress m a w write v s = .fault (.beyondAddressSpace a.toNat w.bytes)

/-- A configuration that breaks R8 is refused (R8). -/
def Obligations.BadConfigurationIsRefused : Prop :=
  ∀ c : Params,
    (∃ s, c.vVis.get s % 2 = 1) ∨
    (∃ s j, ((c.hPixels.get j * c.cpp : Nat) : Int) + (c.corr.get s).get j < 1 ∨
      65535 < ((c.hPixels.get j * c.cpp : Nat) : Int) + (c.corr.get s).get j) ∨
    c.tfifoDepth = 0 ∨ c.pfifoDepth = 0 ∨ bufPairs ≠ c.hPixels.vis / 2 →
    boot c = .refused .badConfiguration

/-- Every accepted configuration boots into its reset state with the invariants; State.reset's parameters, the model's choice (logs 2 to 5 and 35), are accepted (R8, R35, R58, 10_state.md section 9). -/
def Obligations.InvariantHoldsAtReset : Prop :=
  (∀ c : Params, c.ok = true →
    boot c = .next (State.resetWith c) ∧ Inv (State.resetWith c) ∧ PixelStreamAligned (State.resetWith c)) ∧
  Config.params.ok = true ∧ boot Config.params = .next State.reset ∧ Inv State.reset ∧ PixelStreamAligned State.reset

/-- Every step keeps the machine's invariant (R32, R35, R36, R37, R38, R39, R45, R49, R112, R159, R325). -/
def Obligations.EveryStepKeepsTheInvariant : Prop :=
  ∀ s t : State, Inv s → step s = .next t → Inv t

/-- Every step keeps the pixel stream in whole lines of one LEN and 320 PAIR words (R113, R114, R181, R182, R184, R204, R205). -/
def Obligations.EveryStepKeepsThePixelStream : Prop :=
  ∀ s t : State, Inv s → PixelStreamAligned s → step s = .next t → PixelStreamAligned t

/-- POP's LEN word is always 319, and a line is 320 pairs (R54, R113, R114, R184). -/
def Obligations.PopTakesWholeLines : Prop :=
  ∀ (s : State) (w : Word) (ws : List Word), PixelStreamAligned s → s.en = true → s.pfifo = w :: ws →
    (s.popPhase = .len → w = 319 ∧ ∃ t, agentStep .pop s = .next t ∧ t.popPhase = .pix 320 ∧ t.pfifo = ws) ∧
    (∀ c, s.popPhase = .pix c → c ≤ 320 ∧ ∃ t, agentStep .pop s = .next t ∧ t.pfifo = ws ∧
      t.popPhase = (if c = 1 then .blank else .pix (c - 1)))

/-- While the block runs, one of TG, DMA_T and SEQ_T is always enabled (R366). -/
def Obligations.TimingNeverDeadlocks : Prop :=
  ∀ s : State, Inv s → s.en = true →
    agentEnabled .tg s = true ∨ agentEnabled .dmaT s = true ∨ agentEnabled .seqT s = true

/-- PROD (its loop as the model's choice of PROD, log 19) acquires a buffer at flag 1, takes its tag as L, and releases it by clearing the flag (R291, R292, R293, R299). -/
def Obligations.ProducerWaitsForItsFlag : Prop :=
  ∀ (s : State) (b : BufId),
    (s.prod = .acquire b → ∃ t, agentStep .prodLoop s = .next t ∧
      t.prod = (if (s.buf b).flag then .readLine b else .acquire b) ∧ UnchangedExcept [.prod, .prodPort, .master] s t) ∧
    (s.prod = .readLine b → ∃ t, agentStep .prodLoop s = .next t ∧ t.prod = .readMode b (s.buf b).line ∧
      UnchangedExcept [.prod, .prodPort, .master] s t) ∧
    (s.prod = .release b → ∃ t, agentStep .prodLoop s = .next t ∧ t.prod = .acquire b.other ∧ (t.buf b).flag = false ∧
      (t.buf b).pix = (s.buf b).pix ∧ (t.buf b).line = (s.buf b).line ∧
      UnchangedExcept [.prod, .master, bufField b] s t)

/-- PROD (log 19) writes no pixel for a text row past the last and goes to release (R293, R295, 90_conflicts.md C4). -/
def Obligations.RowsPastTheLastAreNotRendered : Prop :=
  ∀ (s : State) (b : BufId) (line : Half), s.prod = .readMode b line →
    ∃ t, agentStep .prodLoop s = .next t ∧ UnchangedExcept [.prod, .prodPort, .master] s t ∧
      (s.cfg.rows s.mode ≤ line.toNat / fontHeight s.mode → t.prod = .release b) ∧
      (line.toNat / fontHeight s.mode < s.cfg.rows s.mode →
        t.prod = .readCell { b := b, line := line, mode := s.mode, col := 0 })

/-- PROD's loop (log 19) leaves in the buffer what the render function gives of the grid and font bytes in bus memory (font bases: the model's, log 35) (R80, R84, R121, R122, R293, R295, R296, R297, R302). -/
def Obligations.ProducerRendersTheLine : Prop :=
  ∀ (s : State) (b : BufId) (line : Half), s.cfg.ok = true → s.cfg.Selectable s.mode → s.prod = .readMode b line →
    ∃ n t, prodRun n s = .next t ∧ t.prod = .release b ∧
      (match render s.cfg s.clut s.mode
          (fun col => (s.readMem (cellAddress s.cfg s.mode (textRow s.mode line) col) .half).setWidth 16)
          (fun i => s.readByte (fontAddress s.cfg s.mode i)) line with
        | none => (t.buf b).pix = (s.buf b).pix
        | some pairs => pairs.length = bufPairs ∧ ∀ i, i < bufPairs → (t.buf b).pixel i = pairs[i]?) ∧
      (s.clut = buildClut s.palette →
        let fontH := if s.mode.getLsbD 1 then 8 else 16
        let cols := if s.mode.getLsbD 2 then 40 else 80
        let fontBase := if s.mode.getLsbD 1 then s.cfg.font8Base else s.cfg.font16Base
        line.toNat / fontH < s.cfg.vis s.mode / fontH →
        ∀ c, c < cols →
          let cell := s.cfg.gridBase.toNat + 2 * (line.toNat / fontH * cols + c)
          let glyph := (s.readByte cell).toNat
          let attr := (s.readByte (cell + 1)).toNat
          let g := s.readByte (fontBase.toNat + (glyph * fontH + line.toNat % fontH))
          let colour := fun set : Bool => s.palette[if set then attr % 16 else attr / 16 % 8]?
          (cols = 80 → ∀ k, k < 4 → ∃ w, (t.buf b).pixel (4 * c + k) = some w ∧
            colour (g.getLsbD (7 - 2 * k)) = some (w.extractLsb' 0 12) ∧
            colour (g.getLsbD (6 - 2 * k)) = some (w.extractLsb' 16 12)) ∧
          (cols = 40 → ∀ k, k < 8 → ∃ w, (t.buf b).pixel (8 * c + k) = some w ∧
            colour (g.getLsbD (7 - k)) = some (w.extractLsb' 0 12) ∧
            colour (g.getLsbD (7 - k)) = some (w.extractLsb' 16 12))) ∧
      (t.buf b).flag = (s.buf b).flag ∧ (t.buf b).line = (s.buf b).line ∧
      UnchangedExcept [.prod, .prodPort, .master, bufField b] s t

/-- SET_MODE (two requests' steps: the model's choice, log 30) reports success exactly when the mode read back is the one written (R263, R130, 95_test_vectors.md S1). -/
def Obligations.SetModeReportsItsSuccess : Prop :=
  ∀ (s : State) (x : Master) (m : Word) (rs : List Request), (s.port x).requests = .setMode m :: rs →
    ∃ t, bindNext (portStep x s) (portStep x) = .next t ∧ (t.port x).requests = rs ∧ t.faults = s.faults ∧
      (m ∈ s.cfg.acceptedModes → t.mode = m ∧ t.tbuf = s.cfg.build m ∧ (t.port x).modeSet = some true) ∧
      (m ∉ s.cfg.acceptedModes → t.mode = s.mode ∧ t.tbuf = s.tbuf ∧ (t.port x).modeSet = some (decide (s.mode = m)))

/-- WAIT_SCANLINE n (one read a step: the model's choice, log 30) repeats RD_SCANLINE until it returns min(n, VIS - 1) (R262, R130). -/
def Obligations.WaitScanlineEndsAtItsLine : Prop :=
  (∀ (s : State) (x : Master) (n : Word) (rs : List Request), (s.port x).requests = .waitScanline n :: rs →
    ∃ t target, bindNext (portStep x s) (portStep x) = .next t ∧ target.toNat = min n.toNat (s.cfg.vis s.mode - 1) ∧
      (t.port x).requests = (if s.p.toNat = target.toNat then rs else .spinScanline target :: rs) ∧
      UnchangedExcept [portField x, .master] s t) ∧
  (∀ (s : State) (x : Master) (target : Word) (rs : List Request), (s.port x).requests = .spinScanline target :: rs →
    ∃ t v, portStep x s = .next t ∧ (t.port x).readData = some v ∧ v.toNat = s.p.toNat ∧
      (t.port x).requests = (if s.p.toNat = target.toNat then rs else .spinScanline target :: rs) ∧
      UnchangedExcept [portField x, .master] s t)

/-- The font tables stand in bus memory (at bases of the model's own, log 35): PROD (log 19) reads the byte last written there (R80, R84, R121, R302). -/
def Obligations.FontTablesAreBusMemory : Prop :=
  (∀ (c : Params) (m : Word) (i : Nat), c.ok = true → i < 256 * fontHeight m →
    some ((State.resetWith c).readByte (fontAddress c m i)) = if modeFont m then c.font8[i]? else c.font16[i]?) ∧
  (∀ (s : State) (x : Master) (job : RenderJob) (cell : Half) (v : Word), s.cfg.ok = true → s.prod = .readFont job cell →
    let a := fontAddress s.cfg job.mode (fontIndex job.mode (cellGlyph cell) (fontRow job.mode job.line))
    ∃ t u, accessAddress x (BitVec.ofNat 32 a) .byte true v s = .next t ∧ agentStep .prodLoop t = .next u ∧
      u.prod = .readClut job (cellAttr cell) (v.extractLsb' 0 8) 0 ∧
      (∀ y, y ≠ a → u.readByte y = s.readByte y) ∧ UnchangedExcept [.mem, .prod] s u)

/-- A trigger raised while POP is not in Wait is held, and POP takes it after its blank step; R360's condition, its stall time given from outside (log 15) (R47, R187, R360). -/
def Obligations.TriggerIsHeldWhilePopIsBusy : Prop :=
  (∀ s t : State, s.trig = true → s.popPhase ≠ .wait → step s = .next t → t.trig = true) ∧
  (∀ s : State, s.en = true → s.trig = true → s.popPhase = .blank →
    ∃ t u, agentStep .pop s = .next t ∧ t.popPhase = .wait ∧ t.trig = true ∧
      agentStep .pop t = .next u ∧ u.popPhase = .len ∧ u.trig = false) ∧
  (∀ (c : Params) (s : Standard) (stall : Nat), c.noTriggerOverrun s stall = true ↔
    (640 * c.cpp + c.popLat + stall : Int) < c.period s .fp + c.period s .sync + c.period s .bp + c.period s .vis)

/-- An access that touches the window by its address is an access to the window at its offset (the model's choice, log 26); not 32-bit aligned, it is BAD_ACCESS (R80, R83, R321, 20_memory.md section 2). -/
def Obligations.AddressedAccessesReachTheWindow : Prop :=
  ∀ (m : Master) (a data : Word) (width : Width) (write : Bool) (s : State), s.cfg.ok = true →
    s.cfg.vidBase.toNat < a.toNat + width.bytes → a.toNat < s.cfg.vidBase.toNat + 0x10000 →
    accessAddress m a width write data s = accessWindow m (a - s.cfg.vidBase) width write data s ∧
    (width ≠ .word ∨ a.toNat % 4 ≠ 0 → ∃ t, accessAddress m a width write data s = .next t ∧
      Raised (.badAccess m (a - s.cfg.vidBase) width.bytes) s t) ∧
    (a.toNat < s.cfg.vidBase.toNat ∨ s.cfg.vidBase.toNat + 0x10000 < a.toNat + width.bytes → width ≠ .word ∨ a.toNat % 4 ≠ 0) ∧
    (width = .word → a.toNat % 4 = 0 → s.cfg.vidBase.toNat ≤ a.toNat ∧
      (a - s.cfg.vidBase).toNat = a.toNat - s.cfg.vidBase.toNat ∧ (a - s.cfg.vidBase).toNat % 4 = 0 ∧
      (a - s.cfg.vidBase).toNat < 0x10000)
end

