-- ==== Sys2Proof/Laws/State.lean ====
section
/-! SUPPORT. One lemma for each field of State and each named update of it, so that no proof unfolds a record update. -/

namespace Sys2Proof.Machine

/-! ### setPort -/

@[simp] theorem State.setPort_cfg (s : State) (m : Master) (p : Port) : (s.setPort m p).cfg = s.cfg := by cases m <;> rfl
@[simp] theorem State.setPort_mode (s : State) (m : Master) (p : Port) : (s.setPort m p).mode = s.mode := by cases m <;> rfl
@[simp] theorem State.setPort_en (s : State) (m : Master) (p : Port) : (s.setPort m p).en = s.en := by cases m <;> rfl
@[simp] theorem State.setPort_tbuf (s : State) (m : Master) (p : Port) : (s.setPort m p).tbuf = s.tbuf := by cases m <;> rfl
@[simp] theorem State.setPort_palette (s : State) (m : Master) (p : Port) : (s.setPort m p).palette = s.palette := by cases m <;> rfl
@[simp] theorem State.setPort_clut (s : State) (m : Master) (p : Port) : (s.setPort m p).clut = s.clut := by cases m <;> rfl
@[simp] theorem State.setPort_t (s : State) (m : Master) (p : Port) : (s.setPort m p).t = s.t := by cases m <;> rfl
@[simp] theorem State.setPort_p (s : State) (m : Master) (p : Port) : (s.setPort m p).p = s.p := by cases m <;> rfl
@[simp] theorem State.setPort_pbuf (s : State) (m : Master) (p : Port) : (s.setPort m p).pbuf = s.pbuf := by cases m <;> rfl
@[simp] theorem State.setPort_clash (s : State) (m : Master) (p : Port) : (s.setPort m p).clash = s.clash := by cases m <;> rfl
@[simp] theorem State.setPort_tDone (s : State) (m : Master) (p : Port) : (s.setPort m p).tDone = s.tDone := by cases m <;> rfl
@[simp] theorem State.setPort_pDone (s : State) (m : Master) (p : Port) : (s.setPort m p).pDone = s.pDone := by cases m <;> rfl
@[simp] theorem State.setPort_dmaT (s : State) (m : Master) (p : Port) : (s.setPort m p).dmaT = s.dmaT := by cases m <;> rfl
@[simp] theorem State.setPort_dmaP (s : State) (m : Master) (p : Port) : (s.setPort m p).dmaP = s.dmaP := by cases m <;> rfl
@[simp] theorem State.setPort_tfifo (s : State) (m : Master) (p : Port) : (s.setPort m p).tfifo = s.tfifo := by cases m <;> rfl
@[simp] theorem State.setPort_tgCur (s : State) (m : Master) (p : Port) : (s.setPort m p).tgCur = s.tgCur := by cases m <;> rfl
@[simp] theorem State.setPort_hs (s : State) (m : Master) (p : Port) : (s.setPort m p).hs = s.hs := by cases m <;> rfl
@[simp] theorem State.setPort_vs (s : State) (m : Master) (p : Port) : (s.setPort m p).vs = s.vs := by cases m <;> rfl
@[simp] theorem State.setPort_trig (s : State) (m : Master) (p : Port) : (s.setPort m p).trig = s.trig := by cases m <;> rfl
@[simp] theorem State.setPort_popPhase (s : State) (m : Master) (p : Port) : (s.setPort m p).popPhase = s.popPhase := by cases m <;> rfl
@[simp] theorem State.setPort_pfifo (s : State) (m : Master) (p : Port) : (s.setPort m p).pfifo = s.pfifo := by cases m <;> rfl
@[simp] theorem State.setPort_rgb (s : State) (m : Master) (p : Port) : (s.setPort m p).rgb = s.rgb := by cases m <;> rfl
@[simp] theorem State.setPort_buf0 (s : State) (m : Master) (p : Port) : (s.setPort m p).buf0 = s.buf0 := by cases m <;> rfl
@[simp] theorem State.setPort_buf1 (s : State) (m : Master) (p : Port) : (s.setPort m p).buf1 = s.buf1 := by cases m <;> rfl
@[simp] theorem State.setPort_faults (s : State) (m : Master) (p : Port) : (s.setPort m p).faults = s.faults := by cases m <;> rfl
@[simp] theorem State.setPort_out (s : State) (m : Master) (p : Port) : (s.setPort m p).out = s.out := by cases m <;> rfl
@[simp] theorem State.setPort_mem (s : State) (m : Master) (p : Port) : (s.setPort m p).mem = s.mem := by cases m <;> rfl
@[simp] theorem State.setPort_prod (s : State) (m : Master) (p : Port) : (s.setPort m p).prod = s.prod := by cases m <;> rfl
@[simp] theorem State.setPort_master (s : State) (m : Master) (p : Port) : (s.setPort m p).master = s.master := by cases m <;> rfl
@[simp] theorem State.setPort_sched (s : State) (m : Master) (p : Port) : (s.setPort m p).sched = s.sched := by cases m <;> rfl
@[simp] theorem State.setPort_tick (s : State) (m : Master) (p : Port) : (s.setPort m p).tick = s.tick := by cases m <;> rfl

/-! ### reply -/

@[simp] theorem State.reply_cfg (s : State) (v : Word) : (s.reply v).cfg = s.cfg := State.setPort_cfg _ _ _
@[simp] theorem State.reply_mode (s : State) (v : Word) : (s.reply v).mode = s.mode := State.setPort_mode _ _ _
@[simp] theorem State.reply_en (s : State) (v : Word) : (s.reply v).en = s.en := State.setPort_en _ _ _
@[simp] theorem State.reply_tbuf (s : State) (v : Word) : (s.reply v).tbuf = s.tbuf := State.setPort_tbuf _ _ _
@[simp] theorem State.reply_palette (s : State) (v : Word) : (s.reply v).palette = s.palette := State.setPort_palette _ _ _
@[simp] theorem State.reply_clut (s : State) (v : Word) : (s.reply v).clut = s.clut := State.setPort_clut _ _ _
@[simp] theorem State.reply_t (s : State) (v : Word) : (s.reply v).t = s.t := State.setPort_t _ _ _
@[simp] theorem State.reply_p (s : State) (v : Word) : (s.reply v).p = s.p := State.setPort_p _ _ _
@[simp] theorem State.reply_pbuf (s : State) (v : Word) : (s.reply v).pbuf = s.pbuf := State.setPort_pbuf _ _ _
@[simp] theorem State.reply_clash (s : State) (v : Word) : (s.reply v).clash = s.clash := State.setPort_clash _ _ _
@[simp] theorem State.reply_tDone (s : State) (v : Word) : (s.reply v).tDone = s.tDone := State.setPort_tDone _ _ _
@[simp] theorem State.reply_pDone (s : State) (v : Word) : (s.reply v).pDone = s.pDone := State.setPort_pDone _ _ _
@[simp] theorem State.reply_dmaT (s : State) (v : Word) : (s.reply v).dmaT = s.dmaT := State.setPort_dmaT _ _ _
@[simp] theorem State.reply_dmaP (s : State) (v : Word) : (s.reply v).dmaP = s.dmaP := State.setPort_dmaP _ _ _
@[simp] theorem State.reply_tfifo (s : State) (v : Word) : (s.reply v).tfifo = s.tfifo := State.setPort_tfifo _ _ _
@[simp] theorem State.reply_tgCur (s : State) (v : Word) : (s.reply v).tgCur = s.tgCur := State.setPort_tgCur _ _ _
@[simp] theorem State.reply_hs (s : State) (v : Word) : (s.reply v).hs = s.hs := State.setPort_hs _ _ _
@[simp] theorem State.reply_vs (s : State) (v : Word) : (s.reply v).vs = s.vs := State.setPort_vs _ _ _
@[simp] theorem State.reply_trig (s : State) (v : Word) : (s.reply v).trig = s.trig := State.setPort_trig _ _ _
@[simp] theorem State.reply_popPhase (s : State) (v : Word) : (s.reply v).popPhase = s.popPhase := State.setPort_popPhase _ _ _
@[simp] theorem State.reply_pfifo (s : State) (v : Word) : (s.reply v).pfifo = s.pfifo := State.setPort_pfifo _ _ _
@[simp] theorem State.reply_rgb (s : State) (v : Word) : (s.reply v).rgb = s.rgb := State.setPort_rgb _ _ _
@[simp] theorem State.reply_buf0 (s : State) (v : Word) : (s.reply v).buf0 = s.buf0 := State.setPort_buf0 _ _ _
@[simp] theorem State.reply_buf1 (s : State) (v : Word) : (s.reply v).buf1 = s.buf1 := State.setPort_buf1 _ _ _
@[simp] theorem State.reply_faults (s : State) (v : Word) : (s.reply v).faults = s.faults := State.setPort_faults _ _ _
@[simp] theorem State.reply_out (s : State) (v : Word) : (s.reply v).out = s.out := State.setPort_out _ _ _
@[simp] theorem State.reply_mem (s : State) (v : Word) : (s.reply v).mem = s.mem := State.setPort_mem _ _ _
@[simp] theorem State.reply_prod (s : State) (v : Word) : (s.reply v).prod = s.prod := State.setPort_prod _ _ _
@[simp] theorem State.reply_master (s : State) (v : Word) : (s.reply v).master = s.master := State.setPort_master _ _ _
@[simp] theorem State.reply_sched (s : State) (v : Word) : (s.reply v).sched = s.sched := State.setPort_sched _ _ _
@[simp] theorem State.reply_tick (s : State) (v : Word) : (s.reply v).tick = s.tick := State.setPort_tick _ _ _

/-! ### setRequests -/

@[simp] theorem State.setRequests_cfg (s : State) (m : Master) (rs : List Request) : (s.setRequests m rs).cfg = s.cfg := State.setPort_cfg _ _ _
@[simp] theorem State.setRequests_mode (s : State) (m : Master) (rs : List Request) : (s.setRequests m rs).mode = s.mode := State.setPort_mode _ _ _
@[simp] theorem State.setRequests_en (s : State) (m : Master) (rs : List Request) : (s.setRequests m rs).en = s.en := State.setPort_en _ _ _
@[simp] theorem State.setRequests_tbuf (s : State) (m : Master) (rs : List Request) : (s.setRequests m rs).tbuf = s.tbuf := State.setPort_tbuf _ _ _
@[simp] theorem State.setRequests_palette (s : State) (m : Master) (rs : List Request) : (s.setRequests m rs).palette = s.palette := State.setPort_palette _ _ _
@[simp] theorem State.setRequests_clut (s : State) (m : Master) (rs : List Request) : (s.setRequests m rs).clut = s.clut := State.setPort_clut _ _ _
@[simp] theorem State.setRequests_t (s : State) (m : Master) (rs : List Request) : (s.setRequests m rs).t = s.t := State.setPort_t _ _ _
@[simp] theorem State.setRequests_p (s : State) (m : Master) (rs : List Request) : (s.setRequests m rs).p = s.p := State.setPort_p _ _ _
@[simp] theorem State.setRequests_pbuf (s : State) (m : Master) (rs : List Request) : (s.setRequests m rs).pbuf = s.pbuf := State.setPort_pbuf _ _ _
@[simp] theorem State.setRequests_clash (s : State) (m : Master) (rs : List Request) : (s.setRequests m rs).clash = s.clash := State.setPort_clash _ _ _
@[simp] theorem State.setRequests_tDone (s : State) (m : Master) (rs : List Request) : (s.setRequests m rs).tDone = s.tDone := State.setPort_tDone _ _ _
@[simp] theorem State.setRequests_pDone (s : State) (m : Master) (rs : List Request) : (s.setRequests m rs).pDone = s.pDone := State.setPort_pDone _ _ _
@[simp] theorem State.setRequests_dmaT (s : State) (m : Master) (rs : List Request) : (s.setRequests m rs).dmaT = s.dmaT := State.setPort_dmaT _ _ _
@[simp] theorem State.setRequests_dmaP (s : State) (m : Master) (rs : List Request) : (s.setRequests m rs).dmaP = s.dmaP := State.setPort_dmaP _ _ _
@[simp] theorem State.setRequests_tfifo (s : State) (m : Master) (rs : List Request) : (s.setRequests m rs).tfifo = s.tfifo := State.setPort_tfifo _ _ _
@[simp] theorem State.setRequests_tgCur (s : State) (m : Master) (rs : List Request) : (s.setRequests m rs).tgCur = s.tgCur := State.setPort_tgCur _ _ _
@[simp] theorem State.setRequests_hs (s : State) (m : Master) (rs : List Request) : (s.setRequests m rs).hs = s.hs := State.setPort_hs _ _ _
@[simp] theorem State.setRequests_vs (s : State) (m : Master) (rs : List Request) : (s.setRequests m rs).vs = s.vs := State.setPort_vs _ _ _
@[simp] theorem State.setRequests_trig (s : State) (m : Master) (rs : List Request) : (s.setRequests m rs).trig = s.trig := State.setPort_trig _ _ _
@[simp] theorem State.setRequests_popPhase (s : State) (m : Master) (rs : List Request) : (s.setRequests m rs).popPhase = s.popPhase := State.setPort_popPhase _ _ _
@[simp] theorem State.setRequests_pfifo (s : State) (m : Master) (rs : List Request) : (s.setRequests m rs).pfifo = s.pfifo := State.setPort_pfifo _ _ _
@[simp] theorem State.setRequests_rgb (s : State) (m : Master) (rs : List Request) : (s.setRequests m rs).rgb = s.rgb := State.setPort_rgb _ _ _
@[simp] theorem State.setRequests_buf0 (s : State) (m : Master) (rs : List Request) : (s.setRequests m rs).buf0 = s.buf0 := State.setPort_buf0 _ _ _
@[simp] theorem State.setRequests_buf1 (s : State) (m : Master) (rs : List Request) : (s.setRequests m rs).buf1 = s.buf1 := State.setPort_buf1 _ _ _
@[simp] theorem State.setRequests_faults (s : State) (m : Master) (rs : List Request) : (s.setRequests m rs).faults = s.faults := State.setPort_faults _ _ _
@[simp] theorem State.setRequests_out (s : State) (m : Master) (rs : List Request) : (s.setRequests m rs).out = s.out := State.setPort_out _ _ _
@[simp] theorem State.setRequests_mem (s : State) (m : Master) (rs : List Request) : (s.setRequests m rs).mem = s.mem := State.setPort_mem _ _ _
@[simp] theorem State.setRequests_prod (s : State) (m : Master) (rs : List Request) : (s.setRequests m rs).prod = s.prod := State.setPort_prod _ _ _
@[simp] theorem State.setRequests_master (s : State) (m : Master) (rs : List Request) : (s.setRequests m rs).master = s.master := State.setPort_master _ _ _
@[simp] theorem State.setRequests_sched (s : State) (m : Master) (rs : List Request) : (s.setRequests m rs).sched = s.sched := State.setPort_sched _ _ _
@[simp] theorem State.setRequests_tick (s : State) (m : Master) (rs : List Request) : (s.setRequests m rs).tick = s.tick := State.setPort_tick _ _ _

/-! ### setModeSet -/

@[simp] theorem State.setModeSet_cfg (s : State) (m : Master) (b : Bool) : (s.setModeSet m b).cfg = s.cfg := State.setPort_cfg _ _ _
@[simp] theorem State.setModeSet_mode (s : State) (m : Master) (b : Bool) : (s.setModeSet m b).mode = s.mode := State.setPort_mode _ _ _
@[simp] theorem State.setModeSet_en (s : State) (m : Master) (b : Bool) : (s.setModeSet m b).en = s.en := State.setPort_en _ _ _
@[simp] theorem State.setModeSet_tbuf (s : State) (m : Master) (b : Bool) : (s.setModeSet m b).tbuf = s.tbuf := State.setPort_tbuf _ _ _
@[simp] theorem State.setModeSet_palette (s : State) (m : Master) (b : Bool) : (s.setModeSet m b).palette = s.palette := State.setPort_palette _ _ _
@[simp] theorem State.setModeSet_clut (s : State) (m : Master) (b : Bool) : (s.setModeSet m b).clut = s.clut := State.setPort_clut _ _ _
@[simp] theorem State.setModeSet_t (s : State) (m : Master) (b : Bool) : (s.setModeSet m b).t = s.t := State.setPort_t _ _ _
@[simp] theorem State.setModeSet_p (s : State) (m : Master) (b : Bool) : (s.setModeSet m b).p = s.p := State.setPort_p _ _ _
@[simp] theorem State.setModeSet_pbuf (s : State) (m : Master) (b : Bool) : (s.setModeSet m b).pbuf = s.pbuf := State.setPort_pbuf _ _ _
@[simp] theorem State.setModeSet_clash (s : State) (m : Master) (b : Bool) : (s.setModeSet m b).clash = s.clash := State.setPort_clash _ _ _
@[simp] theorem State.setModeSet_tDone (s : State) (m : Master) (b : Bool) : (s.setModeSet m b).tDone = s.tDone := State.setPort_tDone _ _ _
@[simp] theorem State.setModeSet_pDone (s : State) (m : Master) (b : Bool) : (s.setModeSet m b).pDone = s.pDone := State.setPort_pDone _ _ _
@[simp] theorem State.setModeSet_dmaT (s : State) (m : Master) (b : Bool) : (s.setModeSet m b).dmaT = s.dmaT := State.setPort_dmaT _ _ _
@[simp] theorem State.setModeSet_dmaP (s : State) (m : Master) (b : Bool) : (s.setModeSet m b).dmaP = s.dmaP := State.setPort_dmaP _ _ _
@[simp] theorem State.setModeSet_tfifo (s : State) (m : Master) (b : Bool) : (s.setModeSet m b).tfifo = s.tfifo := State.setPort_tfifo _ _ _
@[simp] theorem State.setModeSet_tgCur (s : State) (m : Master) (b : Bool) : (s.setModeSet m b).tgCur = s.tgCur := State.setPort_tgCur _ _ _
@[simp] theorem State.setModeSet_hs (s : State) (m : Master) (b : Bool) : (s.setModeSet m b).hs = s.hs := State.setPort_hs _ _ _
@[simp] theorem State.setModeSet_vs (s : State) (m : Master) (b : Bool) : (s.setModeSet m b).vs = s.vs := State.setPort_vs _ _ _
@[simp] theorem State.setModeSet_trig (s : State) (m : Master) (b : Bool) : (s.setModeSet m b).trig = s.trig := State.setPort_trig _ _ _
@[simp] theorem State.setModeSet_popPhase (s : State) (m : Master) (b : Bool) : (s.setModeSet m b).popPhase = s.popPhase := State.setPort_popPhase _ _ _
@[simp] theorem State.setModeSet_pfifo (s : State) (m : Master) (b : Bool) : (s.setModeSet m b).pfifo = s.pfifo := State.setPort_pfifo _ _ _
@[simp] theorem State.setModeSet_rgb (s : State) (m : Master) (b : Bool) : (s.setModeSet m b).rgb = s.rgb := State.setPort_rgb _ _ _
@[simp] theorem State.setModeSet_buf0 (s : State) (m : Master) (b : Bool) : (s.setModeSet m b).buf0 = s.buf0 := State.setPort_buf0 _ _ _
@[simp] theorem State.setModeSet_buf1 (s : State) (m : Master) (b : Bool) : (s.setModeSet m b).buf1 = s.buf1 := State.setPort_buf1 _ _ _
@[simp] theorem State.setModeSet_faults (s : State) (m : Master) (b : Bool) : (s.setModeSet m b).faults = s.faults := State.setPort_faults _ _ _
@[simp] theorem State.setModeSet_out (s : State) (m : Master) (b : Bool) : (s.setModeSet m b).out = s.out := State.setPort_out _ _ _
@[simp] theorem State.setModeSet_mem (s : State) (m : Master) (b : Bool) : (s.setModeSet m b).mem = s.mem := State.setPort_mem _ _ _
@[simp] theorem State.setModeSet_prod (s : State) (m : Master) (b : Bool) : (s.setModeSet m b).prod = s.prod := State.setPort_prod _ _ _
@[simp] theorem State.setModeSet_master (s : State) (m : Master) (b : Bool) : (s.setModeSet m b).master = s.master := State.setPort_master _ _ _
@[simp] theorem State.setModeSet_sched (s : State) (m : Master) (b : Bool) : (s.setModeSet m b).sched = s.sched := State.setPort_sched _ _ _
@[simp] theorem State.setModeSet_tick (s : State) (m : Master) (b : Bool) : (s.setModeSet m b).tick = s.tick := State.setPort_tick _ _ _

/-! ### setBuf -/

@[simp] theorem State.setBuf_cfg (s : State) (b : BufId) (x : ScanBuffer) : (s.setBuf b x).cfg = s.cfg := by cases b <;> rfl
@[simp] theorem State.setBuf_mode (s : State) (b : BufId) (x : ScanBuffer) : (s.setBuf b x).mode = s.mode := by cases b <;> rfl
@[simp] theorem State.setBuf_en (s : State) (b : BufId) (x : ScanBuffer) : (s.setBuf b x).en = s.en := by cases b <;> rfl
@[simp] theorem State.setBuf_tbuf (s : State) (b : BufId) (x : ScanBuffer) : (s.setBuf b x).tbuf = s.tbuf := by cases b <;> rfl
@[simp] theorem State.setBuf_palette (s : State) (b : BufId) (x : ScanBuffer) : (s.setBuf b x).palette = s.palette := by cases b <;> rfl
@[simp] theorem State.setBuf_clut (s : State) (b : BufId) (x : ScanBuffer) : (s.setBuf b x).clut = s.clut := by cases b <;> rfl
@[simp] theorem State.setBuf_t (s : State) (b : BufId) (x : ScanBuffer) : (s.setBuf b x).t = s.t := by cases b <;> rfl
@[simp] theorem State.setBuf_p (s : State) (b : BufId) (x : ScanBuffer) : (s.setBuf b x).p = s.p := by cases b <;> rfl
@[simp] theorem State.setBuf_pbuf (s : State) (b : BufId) (x : ScanBuffer) : (s.setBuf b x).pbuf = s.pbuf := by cases b <;> rfl
@[simp] theorem State.setBuf_clash (s : State) (b : BufId) (x : ScanBuffer) : (s.setBuf b x).clash = s.clash := by cases b <;> rfl
@[simp] theorem State.setBuf_tDone (s : State) (b : BufId) (x : ScanBuffer) : (s.setBuf b x).tDone = s.tDone := by cases b <;> rfl
@[simp] theorem State.setBuf_pDone (s : State) (b : BufId) (x : ScanBuffer) : (s.setBuf b x).pDone = s.pDone := by cases b <;> rfl
@[simp] theorem State.setBuf_dmaT (s : State) (b : BufId) (x : ScanBuffer) : (s.setBuf b x).dmaT = s.dmaT := by cases b <;> rfl
@[simp] theorem State.setBuf_dmaP (s : State) (b : BufId) (x : ScanBuffer) : (s.setBuf b x).dmaP = s.dmaP := by cases b <;> rfl
@[simp] theorem State.setBuf_tfifo (s : State) (b : BufId) (x : ScanBuffer) : (s.setBuf b x).tfifo = s.tfifo := by cases b <;> rfl
@[simp] theorem State.setBuf_tgCur (s : State) (b : BufId) (x : ScanBuffer) : (s.setBuf b x).tgCur = s.tgCur := by cases b <;> rfl
@[simp] theorem State.setBuf_hs (s : State) (b : BufId) (x : ScanBuffer) : (s.setBuf b x).hs = s.hs := by cases b <;> rfl
@[simp] theorem State.setBuf_vs (s : State) (b : BufId) (x : ScanBuffer) : (s.setBuf b x).vs = s.vs := by cases b <;> rfl
@[simp] theorem State.setBuf_trig (s : State) (b : BufId) (x : ScanBuffer) : (s.setBuf b x).trig = s.trig := by cases b <;> rfl
@[simp] theorem State.setBuf_popPhase (s : State) (b : BufId) (x : ScanBuffer) : (s.setBuf b x).popPhase = s.popPhase := by cases b <;> rfl
@[simp] theorem State.setBuf_pfifo (s : State) (b : BufId) (x : ScanBuffer) : (s.setBuf b x).pfifo = s.pfifo := by cases b <;> rfl
@[simp] theorem State.setBuf_rgb (s : State) (b : BufId) (x : ScanBuffer) : (s.setBuf b x).rgb = s.rgb := by cases b <;> rfl
@[simp] theorem State.setBuf_faults (s : State) (b : BufId) (x : ScanBuffer) : (s.setBuf b x).faults = s.faults := by cases b <;> rfl
@[simp] theorem State.setBuf_out (s : State) (b : BufId) (x : ScanBuffer) : (s.setBuf b x).out = s.out := by cases b <;> rfl
@[simp] theorem State.setBuf_mem (s : State) (b : BufId) (x : ScanBuffer) : (s.setBuf b x).mem = s.mem := by cases b <;> rfl
@[simp] theorem State.setBuf_prod (s : State) (b : BufId) (x : ScanBuffer) : (s.setBuf b x).prod = s.prod := by cases b <;> rfl
@[simp] theorem State.setBuf_hostPort (s : State) (b : BufId) (x : ScanBuffer) : (s.setBuf b x).hostPort = s.hostPort := by cases b <;> rfl
@[simp] theorem State.setBuf_prodPort (s : State) (b : BufId) (x : ScanBuffer) : (s.setBuf b x).prodPort = s.prodPort := by cases b <;> rfl
@[simp] theorem State.setBuf_master (s : State) (b : BufId) (x : ScanBuffer) : (s.setBuf b x).master = s.master := by cases b <;> rfl
@[simp] theorem State.setBuf_sched (s : State) (b : BufId) (x : ScanBuffer) : (s.setBuf b x).sched = s.sched := by cases b <;> rfl
@[simp] theorem State.setBuf_tick (s : State) (b : BufId) (x : ScanBuffer) : (s.setBuf b x).tick = s.tick := by cases b <;> rfl

/-! ### armT -/

@[simp] theorem State.armT_cfg (s : State) (k : Category) : (s.armT k).cfg = s.cfg := rfl
@[simp] theorem State.armT_mode (s : State) (k : Category) : (s.armT k).mode = s.mode := rfl
@[simp] theorem State.armT_en (s : State) (k : Category) : (s.armT k).en = s.en := rfl
@[simp] theorem State.armT_tbuf (s : State) (k : Category) : (s.armT k).tbuf = s.tbuf := rfl
@[simp] theorem State.armT_palette (s : State) (k : Category) : (s.armT k).palette = s.palette := rfl
@[simp] theorem State.armT_clut (s : State) (k : Category) : (s.armT k).clut = s.clut := rfl
@[simp] theorem State.armT_t (s : State) (k : Category) : (s.armT k).t = s.t := rfl
@[simp] theorem State.armT_p (s : State) (k : Category) : (s.armT k).p = s.p := rfl
@[simp] theorem State.armT_pbuf (s : State) (k : Category) : (s.armT k).pbuf = s.pbuf := rfl
@[simp] theorem State.armT_clash (s : State) (k : Category) : (s.armT k).clash = s.clash := rfl
@[simp] theorem State.armT_tDone (s : State) (k : Category) : (s.armT k).tDone = s.tDone := rfl
@[simp] theorem State.armT_pDone (s : State) (k : Category) : (s.armT k).pDone = s.pDone := rfl
@[simp] theorem State.armT_dmaT (s : State) (k : Category) : (s.armT k).dmaT = .active k .fp := rfl
@[simp] theorem State.armT_dmaP (s : State) (k : Category) : (s.armT k).dmaP = s.dmaP := rfl
@[simp] theorem State.armT_tfifo (s : State) (k : Category) : (s.armT k).tfifo = s.tfifo := rfl
@[simp] theorem State.armT_tgCur (s : State) (k : Category) : (s.armT k).tgCur = s.tgCur := rfl
@[simp] theorem State.armT_hs (s : State) (k : Category) : (s.armT k).hs = s.hs := rfl
@[simp] theorem State.armT_vs (s : State) (k : Category) : (s.armT k).vs = s.vs := rfl
@[simp] theorem State.armT_trig (s : State) (k : Category) : (s.armT k).trig = s.trig := rfl
@[simp] theorem State.armT_popPhase (s : State) (k : Category) : (s.armT k).popPhase = s.popPhase := rfl
@[simp] theorem State.armT_pfifo (s : State) (k : Category) : (s.armT k).pfifo = s.pfifo := rfl
@[simp] theorem State.armT_rgb (s : State) (k : Category) : (s.armT k).rgb = s.rgb := rfl
@[simp] theorem State.armT_buf0 (s : State) (k : Category) : (s.armT k).buf0 = s.buf0 := rfl
@[simp] theorem State.armT_buf1 (s : State) (k : Category) : (s.armT k).buf1 = s.buf1 := rfl
@[simp] theorem State.armT_faults (s : State) (k : Category) : (s.armT k).faults = s.faults := rfl
@[simp] theorem State.armT_out (s : State) (k : Category) : (s.armT k).out = s.out := rfl
@[simp] theorem State.armT_mem (s : State) (k : Category) : (s.armT k).mem = s.mem := rfl
@[simp] theorem State.armT_prod (s : State) (k : Category) : (s.armT k).prod = s.prod := rfl
@[simp] theorem State.armT_hostPort (s : State) (k : Category) : (s.armT k).hostPort = s.hostPort := rfl
@[simp] theorem State.armT_prodPort (s : State) (k : Category) : (s.armT k).prodPort = s.prodPort := rfl
@[simp] theorem State.armT_master (s : State) (k : Category) : (s.armT k).master = s.master := rfl
@[simp] theorem State.armT_sched (s : State) (k : Category) : (s.armT k).sched = s.sched := rfl
@[simp] theorem State.armT_tick (s : State) (k : Category) : (s.armT k).tick = s.tick := rfl

/-! ### armP -/

@[simp] theorem State.armP_cfg (s : State) (b : BufId) : (s.armP b).cfg = s.cfg := rfl
@[simp] theorem State.armP_mode (s : State) (b : BufId) : (s.armP b).mode = s.mode := rfl
@[simp] theorem State.armP_en (s : State) (b : BufId) : (s.armP b).en = s.en := rfl
@[simp] theorem State.armP_tbuf (s : State) (b : BufId) : (s.armP b).tbuf = s.tbuf := rfl
@[simp] theorem State.armP_palette (s : State) (b : BufId) : (s.armP b).palette = s.palette := rfl
@[simp] theorem State.armP_clut (s : State) (b : BufId) : (s.armP b).clut = s.clut := rfl
@[simp] theorem State.armP_t (s : State) (b : BufId) : (s.armP b).t = s.t := rfl
@[simp] theorem State.armP_p (s : State) (b : BufId) : (s.armP b).p = s.p := rfl
@[simp] theorem State.armP_pbuf (s : State) (b : BufId) : (s.armP b).pbuf = b := rfl
@[simp] theorem State.armP_clash (s : State) (b : BufId) : (s.armP b).clash = s.clash := rfl
@[simp] theorem State.armP_tDone (s : State) (b : BufId) : (s.armP b).tDone = s.tDone := rfl
@[simp] theorem State.armP_pDone (s : State) (b : BufId) : (s.armP b).pDone = s.pDone := rfl
@[simp] theorem State.armP_dmaT (s : State) (b : BufId) : (s.armP b).dmaT = s.dmaT := rfl
@[simp] theorem State.armP_dmaP (s : State) (b : BufId) : (s.armP b).dmaP = .active b 0 := rfl
@[simp] theorem State.armP_tfifo (s : State) (b : BufId) : (s.armP b).tfifo = s.tfifo := rfl
@[simp] theorem State.armP_tgCur (s : State) (b : BufId) : (s.armP b).tgCur = s.tgCur := rfl
@[simp] theorem State.armP_hs (s : State) (b : BufId) : (s.armP b).hs = s.hs := rfl
@[simp] theorem State.armP_vs (s : State) (b : BufId) : (s.armP b).vs = s.vs := rfl
@[simp] theorem State.armP_trig (s : State) (b : BufId) : (s.armP b).trig = s.trig := rfl
@[simp] theorem State.armP_popPhase (s : State) (b : BufId) : (s.armP b).popPhase = s.popPhase := rfl
@[simp] theorem State.armP_pfifo (s : State) (b : BufId) : (s.armP b).pfifo = s.pfifo := rfl
@[simp] theorem State.armP_rgb (s : State) (b : BufId) : (s.armP b).rgb = s.rgb := rfl
@[simp] theorem State.armP_buf0 (s : State) (b : BufId) : (s.armP b).buf0 = s.buf0 := rfl
@[simp] theorem State.armP_buf1 (s : State) (b : BufId) : (s.armP b).buf1 = s.buf1 := rfl
@[simp] theorem State.armP_faults (s : State) (b : BufId) : (s.armP b).faults = s.faults := rfl
@[simp] theorem State.armP_out (s : State) (b : BufId) : (s.armP b).out = s.out := rfl
@[simp] theorem State.armP_mem (s : State) (b : BufId) : (s.armP b).mem = s.mem := rfl
@[simp] theorem State.armP_prod (s : State) (b : BufId) : (s.armP b).prod = s.prod := rfl
@[simp] theorem State.armP_hostPort (s : State) (b : BufId) : (s.armP b).hostPort = s.hostPort := rfl
@[simp] theorem State.armP_prodPort (s : State) (b : BufId) : (s.armP b).prodPort = s.prodPort := rfl
@[simp] theorem State.armP_master (s : State) (b : BufId) : (s.armP b).master = s.master := rfl
@[simp] theorem State.armP_sched (s : State) (b : BufId) : (s.armP b).sched = s.sched := rfl
@[simp] theorem State.armP_tick (s : State) (b : BufId) : (s.armP b).tick = s.tick := rfl

/-! ### record -/

@[simp] theorem State.record_cfg (s : State) (es : List OutEvent) : (s.record es).cfg = s.cfg := rfl
@[simp] theorem State.record_mode (s : State) (es : List OutEvent) : (s.record es).mode = s.mode := rfl
@[simp] theorem State.record_en (s : State) (es : List OutEvent) : (s.record es).en = s.en := rfl
@[simp] theorem State.record_tbuf (s : State) (es : List OutEvent) : (s.record es).tbuf = s.tbuf := rfl
@[simp] theorem State.record_palette (s : State) (es : List OutEvent) : (s.record es).palette = s.palette := rfl
@[simp] theorem State.record_clut (s : State) (es : List OutEvent) : (s.record es).clut = s.clut := rfl
@[simp] theorem State.record_t (s : State) (es : List OutEvent) : (s.record es).t = s.t := rfl
@[simp] theorem State.record_p (s : State) (es : List OutEvent) : (s.record es).p = s.p := rfl
@[simp] theorem State.record_pbuf (s : State) (es : List OutEvent) : (s.record es).pbuf = s.pbuf := rfl
@[simp] theorem State.record_clash (s : State) (es : List OutEvent) : (s.record es).clash = s.clash := rfl
@[simp] theorem State.record_tDone (s : State) (es : List OutEvent) : (s.record es).tDone = s.tDone := rfl
@[simp] theorem State.record_pDone (s : State) (es : List OutEvent) : (s.record es).pDone = s.pDone := rfl
@[simp] theorem State.record_dmaT (s : State) (es : List OutEvent) : (s.record es).dmaT = s.dmaT := rfl
@[simp] theorem State.record_dmaP (s : State) (es : List OutEvent) : (s.record es).dmaP = s.dmaP := rfl
@[simp] theorem State.record_tfifo (s : State) (es : List OutEvent) : (s.record es).tfifo = s.tfifo := rfl
@[simp] theorem State.record_tgCur (s : State) (es : List OutEvent) : (s.record es).tgCur = s.tgCur := rfl
@[simp] theorem State.record_hs (s : State) (es : List OutEvent) : (s.record es).hs = s.hs := rfl
@[simp] theorem State.record_vs (s : State) (es : List OutEvent) : (s.record es).vs = s.vs := rfl
@[simp] theorem State.record_trig (s : State) (es : List OutEvent) : (s.record es).trig = s.trig := rfl
@[simp] theorem State.record_popPhase (s : State) (es : List OutEvent) : (s.record es).popPhase = s.popPhase := rfl
@[simp] theorem State.record_pfifo (s : State) (es : List OutEvent) : (s.record es).pfifo = s.pfifo := rfl
@[simp] theorem State.record_rgb (s : State) (es : List OutEvent) : (s.record es).rgb = s.rgb := rfl
@[simp] theorem State.record_buf0 (s : State) (es : List OutEvent) : (s.record es).buf0 = s.buf0 := rfl
@[simp] theorem State.record_buf1 (s : State) (es : List OutEvent) : (s.record es).buf1 = s.buf1 := rfl
@[simp] theorem State.record_faults (s : State) (es : List OutEvent) : (s.record es).faults = s.faults := rfl
@[simp] theorem State.record_out (s : State) (es : List OutEvent) : (s.record es).out = s.out ++ es := rfl
@[simp] theorem State.record_mem (s : State) (es : List OutEvent) : (s.record es).mem = s.mem := rfl
@[simp] theorem State.record_prod (s : State) (es : List OutEvent) : (s.record es).prod = s.prod := rfl
@[simp] theorem State.record_hostPort (s : State) (es : List OutEvent) : (s.record es).hostPort = s.hostPort := rfl
@[simp] theorem State.record_prodPort (s : State) (es : List OutEvent) : (s.record es).prodPort = s.prodPort := rfl
@[simp] theorem State.record_master (s : State) (es : List OutEvent) : (s.record es).master = s.master := rfl
@[simp] theorem State.record_sched (s : State) (es : List OutEvent) : (s.record es).sched = s.sched := rfl
@[simp] theorem State.record_tick (s : State) (es : List OutEvent) : (s.record es).tick = s.tick := rfl

/-! ### prodAt -/

@[simp] theorem State.prodAt_cfg (s : State) (ph : ProdPhase) : (s.prodAt ph).cfg = s.cfg := rfl
@[simp] theorem State.prodAt_mode (s : State) (ph : ProdPhase) : (s.prodAt ph).mode = s.mode := rfl
@[simp] theorem State.prodAt_en (s : State) (ph : ProdPhase) : (s.prodAt ph).en = s.en := rfl
@[simp] theorem State.prodAt_tbuf (s : State) (ph : ProdPhase) : (s.prodAt ph).tbuf = s.tbuf := rfl
@[simp] theorem State.prodAt_palette (s : State) (ph : ProdPhase) : (s.prodAt ph).palette = s.palette := rfl
@[simp] theorem State.prodAt_clut (s : State) (ph : ProdPhase) : (s.prodAt ph).clut = s.clut := rfl
@[simp] theorem State.prodAt_t (s : State) (ph : ProdPhase) : (s.prodAt ph).t = s.t := rfl
@[simp] theorem State.prodAt_p (s : State) (ph : ProdPhase) : (s.prodAt ph).p = s.p := rfl
@[simp] theorem State.prodAt_pbuf (s : State) (ph : ProdPhase) : (s.prodAt ph).pbuf = s.pbuf := rfl
@[simp] theorem State.prodAt_clash (s : State) (ph : ProdPhase) : (s.prodAt ph).clash = s.clash := rfl
@[simp] theorem State.prodAt_tDone (s : State) (ph : ProdPhase) : (s.prodAt ph).tDone = s.tDone := rfl
@[simp] theorem State.prodAt_pDone (s : State) (ph : ProdPhase) : (s.prodAt ph).pDone = s.pDone := rfl
@[simp] theorem State.prodAt_dmaT (s : State) (ph : ProdPhase) : (s.prodAt ph).dmaT = s.dmaT := rfl
@[simp] theorem State.prodAt_dmaP (s : State) (ph : ProdPhase) : (s.prodAt ph).dmaP = s.dmaP := rfl
@[simp] theorem State.prodAt_tfifo (s : State) (ph : ProdPhase) : (s.prodAt ph).tfifo = s.tfifo := rfl
@[simp] theorem State.prodAt_tgCur (s : State) (ph : ProdPhase) : (s.prodAt ph).tgCur = s.tgCur := rfl
@[simp] theorem State.prodAt_hs (s : State) (ph : ProdPhase) : (s.prodAt ph).hs = s.hs := rfl
@[simp] theorem State.prodAt_vs (s : State) (ph : ProdPhase) : (s.prodAt ph).vs = s.vs := rfl
@[simp] theorem State.prodAt_trig (s : State) (ph : ProdPhase) : (s.prodAt ph).trig = s.trig := rfl
@[simp] theorem State.prodAt_popPhase (s : State) (ph : ProdPhase) : (s.prodAt ph).popPhase = s.popPhase := rfl
@[simp] theorem State.prodAt_pfifo (s : State) (ph : ProdPhase) : (s.prodAt ph).pfifo = s.pfifo := rfl
@[simp] theorem State.prodAt_rgb (s : State) (ph : ProdPhase) : (s.prodAt ph).rgb = s.rgb := rfl
@[simp] theorem State.prodAt_buf0 (s : State) (ph : ProdPhase) : (s.prodAt ph).buf0 = s.buf0 := rfl
@[simp] theorem State.prodAt_buf1 (s : State) (ph : ProdPhase) : (s.prodAt ph).buf1 = s.buf1 := rfl
@[simp] theorem State.prodAt_faults (s : State) (ph : ProdPhase) : (s.prodAt ph).faults = s.faults := rfl
@[simp] theorem State.prodAt_out (s : State) (ph : ProdPhase) : (s.prodAt ph).out = s.out := rfl
@[simp] theorem State.prodAt_mem (s : State) (ph : ProdPhase) : (s.prodAt ph).mem = s.mem := rfl
@[simp] theorem State.prodAt_prod (s : State) (ph : ProdPhase) : (s.prodAt ph).prod = ph := rfl
@[simp] theorem State.prodAt_hostPort (s : State) (ph : ProdPhase) : (s.prodAt ph).hostPort = s.hostPort := rfl
@[simp] theorem State.prodAt_prodPort (s : State) (ph : ProdPhase) : (s.prodAt ph).prodPort = s.prodPort := rfl
@[simp] theorem State.prodAt_master (s : State) (ph : ProdPhase) : (s.prodAt ph).master = s.master := rfl
@[simp] theorem State.prodAt_sched (s : State) (ph : ProdPhase) : (s.prodAt ph).sched = s.sched := rfl
@[simp] theorem State.prodAt_tick (s : State) (ph : ProdPhase) : (s.prodAt ph).tick = s.tick := rfl

/-! ### writeMem -/

@[simp] theorem State.writeMem_cfg (s : State) (a : Nat) (v : Word) (w : Width) : (s.writeMem a v w).cfg = s.cfg := rfl
@[simp] theorem State.writeMem_mode (s : State) (a : Nat) (v : Word) (w : Width) : (s.writeMem a v w).mode = s.mode := rfl
@[simp] theorem State.writeMem_en (s : State) (a : Nat) (v : Word) (w : Width) : (s.writeMem a v w).en = s.en := rfl
@[simp] theorem State.writeMem_tbuf (s : State) (a : Nat) (v : Word) (w : Width) : (s.writeMem a v w).tbuf = s.tbuf := rfl
@[simp] theorem State.writeMem_palette (s : State) (a : Nat) (v : Word) (w : Width) : (s.writeMem a v w).palette = s.palette := rfl
@[simp] theorem State.writeMem_clut (s : State) (a : Nat) (v : Word) (w : Width) : (s.writeMem a v w).clut = s.clut := rfl
@[simp] theorem State.writeMem_t (s : State) (a : Nat) (v : Word) (w : Width) : (s.writeMem a v w).t = s.t := rfl
@[simp] theorem State.writeMem_p (s : State) (a : Nat) (v : Word) (w : Width) : (s.writeMem a v w).p = s.p := rfl
@[simp] theorem State.writeMem_pbuf (s : State) (a : Nat) (v : Word) (w : Width) : (s.writeMem a v w).pbuf = s.pbuf := rfl
@[simp] theorem State.writeMem_clash (s : State) (a : Nat) (v : Word) (w : Width) : (s.writeMem a v w).clash = s.clash := rfl
@[simp] theorem State.writeMem_tDone (s : State) (a : Nat) (v : Word) (w : Width) : (s.writeMem a v w).tDone = s.tDone := rfl
@[simp] theorem State.writeMem_pDone (s : State) (a : Nat) (v : Word) (w : Width) : (s.writeMem a v w).pDone = s.pDone := rfl
@[simp] theorem State.writeMem_dmaT (s : State) (a : Nat) (v : Word) (w : Width) : (s.writeMem a v w).dmaT = s.dmaT := rfl
@[simp] theorem State.writeMem_dmaP (s : State) (a : Nat) (v : Word) (w : Width) : (s.writeMem a v w).dmaP = s.dmaP := rfl
@[simp] theorem State.writeMem_tfifo (s : State) (a : Nat) (v : Word) (w : Width) : (s.writeMem a v w).tfifo = s.tfifo := rfl
@[simp] theorem State.writeMem_tgCur (s : State) (a : Nat) (v : Word) (w : Width) : (s.writeMem a v w).tgCur = s.tgCur := rfl
@[simp] theorem State.writeMem_hs (s : State) (a : Nat) (v : Word) (w : Width) : (s.writeMem a v w).hs = s.hs := rfl
@[simp] theorem State.writeMem_vs (s : State) (a : Nat) (v : Word) (w : Width) : (s.writeMem a v w).vs = s.vs := rfl
@[simp] theorem State.writeMem_trig (s : State) (a : Nat) (v : Word) (w : Width) : (s.writeMem a v w).trig = s.trig := rfl
@[simp] theorem State.writeMem_popPhase (s : State) (a : Nat) (v : Word) (w : Width) : (s.writeMem a v w).popPhase = s.popPhase := rfl
@[simp] theorem State.writeMem_pfifo (s : State) (a : Nat) (v : Word) (w : Width) : (s.writeMem a v w).pfifo = s.pfifo := rfl
@[simp] theorem State.writeMem_rgb (s : State) (a : Nat) (v : Word) (w : Width) : (s.writeMem a v w).rgb = s.rgb := rfl
@[simp] theorem State.writeMem_buf0 (s : State) (a : Nat) (v : Word) (w : Width) : (s.writeMem a v w).buf0 = s.buf0 := rfl
@[simp] theorem State.writeMem_buf1 (s : State) (a : Nat) (v : Word) (w : Width) : (s.writeMem a v w).buf1 = s.buf1 := rfl
@[simp] theorem State.writeMem_faults (s : State) (a : Nat) (v : Word) (w : Width) : (s.writeMem a v w).faults = s.faults := rfl
@[simp] theorem State.writeMem_out (s : State) (a : Nat) (v : Word) (w : Width) : (s.writeMem a v w).out = s.out := rfl
@[simp] theorem State.writeMem_mem (s : State) (a : Nat) (v : Word) (w : Width) : (s.writeMem a v w).mem = s.mem.store s.cfg a v w := rfl
@[simp] theorem State.writeMem_prod (s : State) (a : Nat) (v : Word) (w : Width) : (s.writeMem a v w).prod = s.prod := rfl
@[simp] theorem State.writeMem_hostPort (s : State) (a : Nat) (v : Word) (w : Width) : (s.writeMem a v w).hostPort = s.hostPort := rfl
@[simp] theorem State.writeMem_prodPort (s : State) (a : Nat) (v : Word) (w : Width) : (s.writeMem a v w).prodPort = s.prodPort := rfl
@[simp] theorem State.writeMem_master (s : State) (a : Nat) (v : Word) (w : Width) : (s.writeMem a v w).master = s.master := rfl
@[simp] theorem State.writeMem_sched (s : State) (a : Nat) (v : Word) (w : Width) : (s.writeMem a v w).sched = s.sched := rfl
@[simp] theorem State.writeMem_tick (s : State) (a : Nat) (v : Word) (w : Width) : (s.writeMem a v w).tick = s.tick := rfl

/-! ### asProd -/

@[simp] theorem asProd_cfg (s : State) : (asProd s).cfg = s.cfg := rfl
@[simp] theorem asProd_mode (s : State) : (asProd s).mode = s.mode := rfl
@[simp] theorem asProd_en (s : State) : (asProd s).en = s.en := rfl
@[simp] theorem asProd_tbuf (s : State) : (asProd s).tbuf = s.tbuf := rfl
@[simp] theorem asProd_palette (s : State) : (asProd s).palette = s.palette := rfl
@[simp] theorem asProd_clut (s : State) : (asProd s).clut = s.clut := rfl
@[simp] theorem asProd_t (s : State) : (asProd s).t = s.t := rfl
@[simp] theorem asProd_p (s : State) : (asProd s).p = s.p := rfl
@[simp] theorem asProd_pbuf (s : State) : (asProd s).pbuf = s.pbuf := rfl
@[simp] theorem asProd_clash (s : State) : (asProd s).clash = s.clash := rfl
@[simp] theorem asProd_tDone (s : State) : (asProd s).tDone = s.tDone := rfl
@[simp] theorem asProd_pDone (s : State) : (asProd s).pDone = s.pDone := rfl
@[simp] theorem asProd_dmaT (s : State) : (asProd s).dmaT = s.dmaT := rfl
@[simp] theorem asProd_dmaP (s : State) : (asProd s).dmaP = s.dmaP := rfl
@[simp] theorem asProd_tfifo (s : State) : (asProd s).tfifo = s.tfifo := rfl
@[simp] theorem asProd_tgCur (s : State) : (asProd s).tgCur = s.tgCur := rfl
@[simp] theorem asProd_hs (s : State) : (asProd s).hs = s.hs := rfl
@[simp] theorem asProd_vs (s : State) : (asProd s).vs = s.vs := rfl
@[simp] theorem asProd_trig (s : State) : (asProd s).trig = s.trig := rfl
@[simp] theorem asProd_popPhase (s : State) : (asProd s).popPhase = s.popPhase := rfl
@[simp] theorem asProd_pfifo (s : State) : (asProd s).pfifo = s.pfifo := rfl
@[simp] theorem asProd_rgb (s : State) : (asProd s).rgb = s.rgb := rfl
@[simp] theorem asProd_buf0 (s : State) : (asProd s).buf0 = s.buf0 := rfl
@[simp] theorem asProd_buf1 (s : State) : (asProd s).buf1 = s.buf1 := rfl
@[simp] theorem asProd_faults (s : State) : (asProd s).faults = s.faults := rfl
@[simp] theorem asProd_out (s : State) : (asProd s).out = s.out := rfl
@[simp] theorem asProd_mem (s : State) : (asProd s).mem = s.mem := rfl
@[simp] theorem asProd_prod (s : State) : (asProd s).prod = s.prod := rfl
@[simp] theorem asProd_hostPort (s : State) : (asProd s).hostPort = s.hostPort := rfl
@[simp] theorem asProd_prodPort (s : State) : (asProd s).prodPort = s.prodPort := rfl
@[simp] theorem asProd_master (s : State) : (asProd s).master = .prod := rfl
@[simp] theorem asProd_sched (s : State) : (asProd s).sched = s.sched := rfl
@[simp] theorem asProd_tick (s : State) : (asProd s).tick = s.tick := rfl

/-! ### afterPick -/

@[simp] theorem afterPick_cfg (s : State) : (afterPick s).cfg = s.cfg := by unfold afterPick; split <;> rfl
@[simp] theorem afterPick_mode (s : State) : (afterPick s).mode = s.mode := by unfold afterPick; split <;> rfl
@[simp] theorem afterPick_en (s : State) : (afterPick s).en = s.en := by unfold afterPick; split <;> rfl
@[simp] theorem afterPick_tbuf (s : State) : (afterPick s).tbuf = s.tbuf := by unfold afterPick; split <;> rfl
@[simp] theorem afterPick_palette (s : State) : (afterPick s).palette = s.palette := by unfold afterPick; split <;> rfl
@[simp] theorem afterPick_clut (s : State) : (afterPick s).clut = s.clut := by unfold afterPick; split <;> rfl
@[simp] theorem afterPick_t (s : State) : (afterPick s).t = s.t := by unfold afterPick; split <;> rfl
@[simp] theorem afterPick_p (s : State) : (afterPick s).p = s.p := by unfold afterPick; split <;> rfl
@[simp] theorem afterPick_pbuf (s : State) : (afterPick s).pbuf = s.pbuf := by unfold afterPick; split <;> rfl
@[simp] theorem afterPick_clash (s : State) : (afterPick s).clash = s.clash := by unfold afterPick; split <;> rfl
@[simp] theorem afterPick_tDone (s : State) : (afterPick s).tDone = s.tDone := by unfold afterPick; split <;> rfl
@[simp] theorem afterPick_pDone (s : State) : (afterPick s).pDone = s.pDone := by unfold afterPick; split <;> rfl
@[simp] theorem afterPick_dmaT (s : State) : (afterPick s).dmaT = s.dmaT := by unfold afterPick; split <;> rfl
@[simp] theorem afterPick_dmaP (s : State) : (afterPick s).dmaP = s.dmaP := by unfold afterPick; split <;> rfl
@[simp] theorem afterPick_tfifo (s : State) : (afterPick s).tfifo = s.tfifo := by unfold afterPick; split <;> rfl
@[simp] theorem afterPick_tgCur (s : State) : (afterPick s).tgCur = s.tgCur := by unfold afterPick; split <;> rfl
@[simp] theorem afterPick_hs (s : State) : (afterPick s).hs = s.hs := by unfold afterPick; split <;> rfl
@[simp] theorem afterPick_vs (s : State) : (afterPick s).vs = s.vs := by unfold afterPick; split <;> rfl
@[simp] theorem afterPick_trig (s : State) : (afterPick s).trig = s.trig := by unfold afterPick; split <;> rfl
@[simp] theorem afterPick_popPhase (s : State) : (afterPick s).popPhase = s.popPhase := by unfold afterPick; split <;> rfl
@[simp] theorem afterPick_pfifo (s : State) : (afterPick s).pfifo = s.pfifo := by unfold afterPick; split <;> rfl
@[simp] theorem afterPick_rgb (s : State) : (afterPick s).rgb = s.rgb := by unfold afterPick; split <;> rfl
@[simp] theorem afterPick_buf0 (s : State) : (afterPick s).buf0 = s.buf0 := by unfold afterPick; split <;> rfl
@[simp] theorem afterPick_buf1 (s : State) : (afterPick s).buf1 = s.buf1 := by unfold afterPick; split <;> rfl
@[simp] theorem afterPick_faults (s : State) : (afterPick s).faults = s.faults := by unfold afterPick; split <;> rfl
@[simp] theorem afterPick_out (s : State) : (afterPick s).out = s.out := by unfold afterPick; split <;> rfl
@[simp] theorem afterPick_mem (s : State) : (afterPick s).mem = s.mem := by unfold afterPick; split <;> rfl
@[simp] theorem afterPick_prod (s : State) : (afterPick s).prod = s.prod := by unfold afterPick; split <;> rfl
@[simp] theorem afterPick_hostPort (s : State) : (afterPick s).hostPort = s.hostPort := by unfold afterPick; split <;> rfl
@[simp] theorem afterPick_prodPort (s : State) : (afterPick s).prodPort = s.prodPort := by unfold afterPick; split <;> rfl
@[simp] theorem afterPick_master (s : State) : (afterPick s).master = s.master := by unfold afterPick; split <;> rfl
@[simp] theorem afterPick_sched (s : State) : (afterPick s).sched = s.sched.tail := by unfold afterPick; split <;> simp_all

/-! ### startBlock -/

@[simp] theorem startBlock_cfg (s : State) : (startBlock s).cfg = s.cfg := rfl
@[simp] theorem startBlock_mode (s : State) : (startBlock s).mode = s.mode := rfl
@[simp] theorem startBlock_en (s : State) : (startBlock s).en = true := rfl
@[simp] theorem startBlock_tbuf (s : State) : (startBlock s).tbuf = s.tbuf := rfl
@[simp] theorem startBlock_palette (s : State) : (startBlock s).palette = s.palette := rfl
@[simp] theorem startBlock_clut (s : State) : (startBlock s).clut = s.clut := rfl
@[simp] theorem startBlock_t (s : State) : (startBlock s).t = s.t := rfl
@[simp] theorem startBlock_p (s : State) : (startBlock s).p = s.p := rfl
@[simp] theorem startBlock_pbuf (s : State) : (startBlock s).pbuf = bufOfLine s.p.toNat := rfl
@[simp] theorem startBlock_clash (s : State) : (startBlock s).clash = s.clash := rfl
@[simp] theorem startBlock_tDone (s : State) : (startBlock s).tDone = s.tDone := rfl
@[simp] theorem startBlock_pDone (s : State) : (startBlock s).pDone = s.pDone := rfl
@[simp] theorem startBlock_dmaT (s : State) : (startBlock s).dmaT = .active (s.cfg.category s.mode s.t.toNat) .fp := rfl
@[simp] theorem startBlock_dmaP (s : State) : (startBlock s).dmaP = .active (bufOfLine s.p.toNat) 0 := rfl
@[simp] theorem startBlock_tfifo (s : State) : (startBlock s).tfifo = s.tfifo := rfl
@[simp] theorem startBlock_tgCur (s : State) : (startBlock s).tgCur = s.tgCur := rfl
@[simp] theorem startBlock_hs (s : State) : (startBlock s).hs = s.hs := rfl
@[simp] theorem startBlock_vs (s : State) : (startBlock s).vs = s.vs := rfl
@[simp] theorem startBlock_trig (s : State) : (startBlock s).trig = s.trig := rfl
@[simp] theorem startBlock_popPhase (s : State) : (startBlock s).popPhase = s.popPhase := rfl
@[simp] theorem startBlock_pfifo (s : State) : (startBlock s).pfifo = s.pfifo := rfl
@[simp] theorem startBlock_rgb (s : State) : (startBlock s).rgb = s.rgb := rfl
@[simp] theorem startBlock_buf0 (s : State) : (startBlock s).buf0 = s.buf0 := rfl
@[simp] theorem startBlock_buf1 (s : State) : (startBlock s).buf1 = s.buf1 := rfl
@[simp] theorem startBlock_faults (s : State) : (startBlock s).faults = s.faults := rfl
@[simp] theorem startBlock_out (s : State) : (startBlock s).out = s.out := rfl
@[simp] theorem startBlock_mem (s : State) : (startBlock s).mem = s.mem := rfl
@[simp] theorem startBlock_prod (s : State) : (startBlock s).prod = s.prod := rfl
@[simp] theorem startBlock_hostPort (s : State) : (startBlock s).hostPort = s.hostPort := rfl
@[simp] theorem startBlock_prodPort (s : State) : (startBlock s).prodPort = s.prodPort := rfl
@[simp] theorem startBlock_master (s : State) : (startBlock s).master = s.master := rfl
@[simp] theorem startBlock_sched (s : State) : (startBlock s).sched = s.sched := rfl
@[simp] theorem startBlock_tick (s : State) : (startBlock s).tick = s.tick := rfl

/-! ### Ports and buffers -/

@[simp] theorem State.port_setPort_self (s : State) (m : Master) (p : Port) : (s.setPort m p).port m = p := by cases m <;> rfl

theorem State.port_setPort_of_ne (s : State) {m m' : Master} (p : Port) (h : m' ≠ m) : (s.setPort m p).port m' = s.port m' := by
  cases m <;> cases m' <;> first | rfl | exact absurd rfl h

@[simp] theorem State.port_reply_self (s : State) (v : Word) :
    (s.reply v).port s.master = { s.port s.master with readData := some v } := by simp [State.reply]

@[simp] theorem State.buf_setBuf_self (s : State) (b : BufId) (x : ScanBuffer) : (s.setBuf b x).buf b = x := by cases b <;> rfl

theorem State.buf_setBuf_of_ne (s : State) {b b' : BufId} (x : ScanBuffer) (h : b' ≠ b) : (s.setBuf b x).buf b' = s.buf b' := by
  cases b <;> cases b' <;> first | rfl | exact absurd rfl h

@[simp] theorem State.buf_reply (s : State) (v : Word) (b : BufId) : (s.reply v).buf b = s.buf b := by cases b <;> simp [State.buf]

@[simp] theorem State.buf_armP (s : State) (b b' : BufId) : (s.armP b).buf b' = s.buf b' := by cases b' <;> rfl

@[simp] theorem State.buf_prodAt (s : State) (ph : ProdPhase) (b : BufId) : (s.prodAt ph).buf b = s.buf b := by cases b <;> rfl

@[simp] theorem State.buf_asProd (s : State) (b : BufId) : (asProd s).buf b = s.buf b := by cases b <;> rfl

@[simp] theorem ScanBuffer.clearFlag_flag (x : ScanBuffer) : x.clearFlag.flag = false := rfl
@[simp] theorem ScanBuffer.clearFlag_line (x : ScanBuffer) : x.clearFlag.line = x.line := rfl
@[simp] theorem ScanBuffer.clearFlag_pix (x : ScanBuffer) : x.clearFlag.pix = x.pix := rfl
@[simp] theorem ScanBuffer.handOver_flag (x : ScanBuffer) (l : Half) : (x.handOver l).flag = true := rfl
@[simp] theorem ScanBuffer.handOver_line (x : ScanBuffer) (l : Half) : (x.handOver l).line = l := rfl
@[simp] theorem ScanBuffer.handOver_pix (x : ScanBuffer) (l : Half) : (x.handOver l).pix = x.pix := rfl

@[simp] theorem ScanBuffer.setPixel_flag (x : ScanBuffer) (i : Nat) (v : Word) : (x.setPixel i v).flag = x.flag := by
  unfold ScanBuffer.setPixel; split <;> rfl

@[simp] theorem ScanBuffer.setPixel_line (x : ScanBuffer) (i : Nat) (v : Word) : (x.setPixel i v).line = x.line := by
  unfold ScanBuffer.setPixel; split <;> rfl

@[simp] theorem ScanBuffer.pixel_setPixel_self (x : ScanBuffer) (i : Nat) (v : Word) (h : i < bufPairs) :
    (x.setPixel i v).pixel i = some v := by simp [ScanBuffer.setPixel, ScanBuffer.pixel, h]

theorem ScanBuffer.pixel_setPixel_of_ne (x : ScanBuffer) {i j : Nat} (v : Word) (h : j ≠ i) :
    (x.setPixel i v).pixel j = x.pixel j := by
  unfold ScanBuffer.setPixel
  split
  · simp only [ScanBuffer.pixel]
    split
    · simp [Ne.symm h]
    · rfl
  · rfl

@[simp] theorem ScanBuffer.len_eq (x : ScanBuffer) : x.len = 319 := rfl

@[simp] theorem State.buf_setRequests (s : State) (m : Master) (rs : List Request) (b : BufId) :
    (s.setRequests m rs).buf b = s.buf b := by cases b <;> simp [State.buf]

@[simp] theorem State.buf_afterPick (s : State) (b : BufId) : (afterPick s).buf b = s.buf b := by cases b <;> simp [State.buf]

end Sys2Proof.Machine
end

