-- ==== Sys2Proof/Laws/Ops.lean ====
section
/-! SUPPORT. What each shared operation can do, said once: raising a fault, going on from a next state, bus memory, the bus access. -/

namespace Sys2Proof.Machine

/-! ### Results -/

theorem bindNext_next_iff {r : Result} {f : State → Result} {t : State} :
    bindNext r f = .next t ↔ ∃ u, r = .next u ∧ f u = .next t := by
  cases r <;> simp [bindNext]

@[simp] theorem bindNext_next (s : State) (f : State → Result) : bindNext (.next s) f = f s := rfl

@[simp] theorem stall_eq (s : State) : stall s = .next s := rfl

/-! ### Raising a fault (R321) -/

theorem raiseFault_eq (f : FaultRecord) (s : State) :
    raiseFault f s = .next { s with faults := recordFault f s.faults } := rfl

theorem mem_recordFault (f g : FaultRecord) (fs : List FaultRecord) : g ∈ recordFault f fs ↔ g = f ∨ g ∈ fs := by
  unfold recordFault
  split
  · constructor
    · exact Or.inr
    · rintro (rfl | h)
      · assumption
      · exact h
  · simp [or_comm]

theorem recordFault_nodup {f : FaultRecord} {fs : List FaultRecord} (h : fs.Nodup) : (recordFault f fs).Nodup := by
  unfold recordFault
  split
  · exact h
  · rename_i hf
    rw [List.nodup_append]
    refine ⟨h, by simp, ?_⟩
    rintro a ha b hb rfl
    simp at hb
    exact hf (hb ▸ ha)

theorem tgStopped_false_iff (s : State) : tgStopped s = false ↔ ∀ f ∈ s.faults, f.code ≠ 6 := by
  simp [tgStopped]

/-! ### Bus memory (R80, R82) -/

theorem Memory.put_risingFrom {lo a : Nat} {v : Byte} (ha : lo ≤ a) (hb : a < 2 ^ 32) :
    ∀ {m : Memory}, Memory.risingFrom lo m = true → Memory.risingFrom lo (Memory.put m a v) = true := by
  intro m
  induction m generalizing lo with
  | nil => intro _; simp [Memory.put, Memory.risingFrom]; omega
  | cons c rest ih =>
    obtain ⟨k, b⟩ := c
    intro h
    simp only [Memory.risingFrom, Bool.and_eq_true, decide_eq_true_eq] at h
    obtain ⟨⟨h1, h2⟩, h3⟩ := h
    unfold Memory.put
    split
    · rename_i hlt
      simp only [Memory.risingFrom, Bool.and_eq_true, decide_eq_true_eq]
      exact ⟨⟨h1, h2⟩, ih (by omega) h3⟩
    · split
      · rename_i hne heq
        subst heq
        simp only [Memory.risingFrom, Bool.and_eq_true, decide_eq_true_eq]
        exact ⟨⟨h1, h2⟩, h3⟩
      · rename_i hge hne
        simp only [Memory.risingFrom, Bool.and_eq_true, decide_eq_true_eq]
        exact ⟨⟨ha, hb⟩, ⟨by omega, h2⟩, h3⟩

theorem Memory.listed_put_self (m : Memory) (a : Nat) (v : Byte) : Memory.listed (Memory.put m a v) a = some v := by
  induction m with
  | nil => simp [Memory.put, Memory.listed]
  | cons c rest ih =>
    obtain ⟨k, b⟩ := c
    unfold Memory.put
    split
    · rename_i h
      simp [Memory.listed, ih, Nat.ne_of_lt h]
    · split <;> simp [Memory.listed]

theorem Memory.listed_put_of_ne (m : Memory) {a x : Nat} (v : Byte) (h : x ≠ a) :
    Memory.listed (Memory.put m a v) x = Memory.listed m x := by
  induction m with
  | nil => simp [Memory.put, Memory.listed, Ne.symm h]
  | cons c rest ih =>
    obtain ⟨k, b⟩ := c
    unfold Memory.put
    split
    · simp [Memory.listed, ih]
    · split
      · rename_i heq
        subst heq
        simp [Memory.listed, Ne.symm h]
      · simp [Memory.listed, Ne.symm h]

theorem Memory.listed_erase_self (m : Memory) (a : Nat) : Memory.listed (Memory.erase m a) a = none := by
  induction m with
  | nil => rfl
  | cons c rest ih =>
    obtain ⟨k, b⟩ := c
    by_cases h : k = a <;> simp_all [Memory.erase, Memory.listed]

theorem Memory.listed_erase_of_ne (m : Memory) {a x : Nat} (h : x ≠ a) : Memory.listed (Memory.erase m a) x = Memory.listed m x := by
  induction m with
  | nil => rfl
  | cons c rest ih =>
    obtain ⟨k, b⟩ := c
    by_cases hk : k = a
    · subst hk
      simpa [Memory.erase, Memory.listed, Ne.symm h] using ih
    · simp only [Memory.erase, List.filter_cons, hk, ne_eq, not_false_eq_true, decide_true, if_true, Memory.listed]
      split
      · rfl
      · exact ih

theorem Memory.risingFrom_mono {lo lo' : Nat} (h : lo ≤ lo') : ∀ {m : Memory}, Memory.risingFrom lo' m = true → Memory.risingFrom lo m = true
  | [], _ => rfl
  | (k, b) :: rest, hm => by
    simp only [Memory.risingFrom, Bool.and_eq_true, decide_eq_true_eq] at hm ⊢
    exact ⟨⟨by omega, hm.1.2⟩, hm.2⟩

theorem Memory.erase_risingFrom (a : Nat) : ∀ {lo : Nat} {m : Memory}, Memory.risingFrom lo m = true →
    Memory.risingFrom lo (Memory.erase m a) = true
  | _, [], _ => rfl
  | lo, (k, b) :: rest, hm => by
    simp only [Memory.risingFrom, Bool.and_eq_true, decide_eq_true_eq] at hm
    have ih := Memory.erase_risingFrom a hm.2
    by_cases hk : k = a
    · simp only [Memory.erase, hk, List.filter_cons, ne_eq, not_true_eq_false, decide_false, Bool.false_eq_true, if_false]
      exact Memory.risingFrom_mono (by omega) ih
    · simp only [Memory.erase, List.filter_cons, hk, ne_eq, not_false_eq_true, decide_true, if_true, Memory.risingFrom,
        Bool.and_eq_true, decide_eq_true_eq]
      exact ⟨hm.1, ih⟩

theorem Memory.mem_put {m : Memory} {a : Nat} {v : Byte} {cell : Host.Cell} (h : cell ∈ Memory.put m a v) :
    cell = (a, v) ∨ cell ∈ m := by
  induction m with
  | nil => simpa [Memory.put] using h
  | cons c rest ih =>
    obtain ⟨k, b⟩ := c
    unfold Memory.put at h
    split at h
    · rcases List.mem_cons.mp h with h | h
      · simp [h]
      · rcases ih h with h | h <;> simp [h]
    · split at h <;> rcases List.mem_cons.mp h with h | h <;> simp_all

/-- A write inside the bus space keeps the canonical form. -/
theorem Memory.write_wf {c : Params} {m : Memory} {a : Nat} {v : Byte} (hb : a < 2 ^ 32) (h : Memory.wf c m = true) :
    Memory.wf c (m.write c a v) = true := by
  simp only [Memory.wf, Bool.and_eq_true, List.all_eq_true, decide_eq_true_eq] at h ⊢
  unfold Memory.write
  split
  · exact ⟨Memory.erase_risingFrom a h.1, fun cell hc => h.2 cell (List.mem_filter.mp hc).1⟩
  · rename_i hv
    refine ⟨Memory.put_risingFrom (Nat.zero_le a) hb h.1, fun cell hc => ?_⟩
    rcases Memory.mem_put hc with rfl | hc
    · exact hv
    · exact h.2 cell hc

@[simp] theorem Memory.read_write_self (m : Memory) (c : Params) (a : Nat) (v : Byte) : (m.write c a v).read c a = v := by
  unfold Memory.write
  split
  · rename_i h
    simp [Memory.read, Memory.listed_erase_self, unlistedByte, h]
  · simp [Memory.read, Memory.listed_put_self]

theorem Memory.read_write_of_ne (m : Memory) (c : Params) {a x : Nat} (v : Byte) (h : x ≠ a) :
    (m.write c a v).read c x = m.read c x := by
  unfold Memory.write
  split
  · simp only [Memory.read, Memory.listed_erase_of_ne _ h]
  · simp only [Memory.read, Memory.listed_put_of_ne _ _ h]

/-- States with the same memory and parameters read the same byte. -/
theorem State.readByte_congr {s t : State} (h : t.mem = s.mem) (hc : t.cfg = s.cfg) (a : Nat) : t.readByte a = s.readByte a := by
  simp [State.readByte, h, hc]

/-- A byte nothing has written reads as what an unlisted address reads as. -/
theorem State.readByte_unlisted {s : State} {a : Nat} (h : s.mem.listed a = none) : s.readByte a = unlistedByte s.cfg a := by
  simp [State.readByte, Memory.read, h]

/-- A write reaches each byte of its access. -/
theorem State.readByte_writeMem_of_inside (s : State) {a k : Nat} (v : Word) (w : Width) (h : k < w.bytes) :
    (s.writeMem a v w).readByte (a + k) = v.extractLsb' (8 * k) 8 := by
  simp only [State.readByte, State.writeMem_mem, State.writeMem_cfg]
  have hk : k = 0 ∨ k = 1 ∨ k = 2 ∨ k = 3 := by cases w <;> simp only [Width.bytes] at h <;> omega
  rcases hk with rfl | rfl | rfl | rfl <;> cases w <;> simp only [Width.bytes] at h <;> try omega
  all_goals
    simp only [Memory.store, Nat.add_zero, Nat.mul_zero]
    repeat (first | rw [Memory.read_write_self] | rw [Memory.read_write_of_ne _ _ _ (by omega)])

/-- A write outside the bytes of an access does not reach them. -/
theorem State.readByte_writeMem_of_outside (s : State) {a x : Nat} (v : Word) (w : Width) (h : x < a ∨ a + w.bytes ≤ x) :
    (s.writeMem a v w).readByte x = s.readByte x := by
  simp only [State.readByte, State.writeMem_mem, State.writeMem_cfg]
  cases w <;> simp only [Width.bytes] at h <;> simp only [Memory.store] <;>
    repeat rw [Memory.read_write_of_ne _ _ _ (by omega)]

/-- Every write of an access inside the bus space keeps the canonical form. -/
theorem State.writeMem_wf {s : State} {a : Nat} {v : Word} {w : Width} (ha : inBusSpace a w.bytes = true)
    (h : Memory.wf s.cfg s.mem = true) : Memory.wf s.cfg (s.writeMem a v w).mem = true := by
  have ha' : a + w.bytes ≤ 2 ^ 32 := by simpa [inBusSpace] using ha
  rw [State.writeMem_mem]
  cases w <;> simp only [Width.bytes] at ha' <;> simp only [Memory.store] <;>
    repeat refine Memory.write_wf (by omega) ?_
  all_goals exact h

/-- Reset memory has the canonical form, whatever the configuration. -/
theorem State.reset_mem_wf (c : Params) : Memory.wf c (State.resetWith c).mem = true := rfl

/-! ### A bus access (R240) -/

/-- An access to the window raises BAD_ACCESS or UNMAPPED, or runs the instruction its key decodes to. -/
theorem accessWindow_cases (m : Master) (offset : Word) (width : Width) (write : Bool) (data : Word) (s : State) :
    (∃ f, f.code ≠ 6 ∧ accessWindow m offset width write data s = raiseFault f s) ∨
    (∃ i, decode (.bus (busKey offset write) data) = .ok i ∧
      accessWindow m offset width write data s = exec i { s with master := m }) := by
  unfold accessWindow
  split
  · exact .inl ⟨_, by simp [FaultRecord.code], rfl⟩
  · split
    · exact .inl ⟨_, by simp [FaultRecord.code], rfl⟩
    · split
      · exact .inl ⟨_, by simp [FaultRecord.code], rfl⟩
      · rename_i i hi
        exact .inr ⟨i, hi, rfl⟩

/-- The access SET_MODE writes with (R263). -/
theorem accessWindow_wrMode (m : Master) (v : Word) (s : State) :
    accessWindow m 0x0000 .word true v s = execWrMode v { s with master := m } := rfl

/-- The access SET_MODE reads back with (R263). -/
theorem accessWindow_rdMode (m : Master) (s : State) :
    accessWindow m 0x0000 .word false 0 s = execRdMode { s with master := m } := rfl

/-- The access WAIT_SCANLINE repeats (R262). -/
theorem accessWindow_rdScanline (m : Master) (s : State) :
    accessWindow m 0x0008 .word false 0 s = execRdScanline { s with master := m } := rfl

end Sys2Proof.Machine
end

