-- ==== Sys2Proof/Laws/Exec.lean ====
section
/-! SUPPORT. What running an instruction can do, said once: the effects of a bus operation and of TW, LEN and PAIR, and the
inversion lemma of exec. Every instruction answers a next state. -/

namespace Sys2Proof.Machine

/-- The instruction is a bus operation, not TW, LEN or PAIR. -/
def isBusOperation : Instr → Bool
  | .tw _ _ _ _ => false
  | .len _ _ => false
  | .pair _ _ _ _ => false
  | _ => true

/-- What a bus operation does to the state: nothing, a reply, a recorded fault, a new mode, the start, a flag cleared, a pixel written. -/
inductive BusEffect (s : State) : State → Prop where
  | nothing : BusEffect s s
  | reply (v : Word) : BusEffect s (s.reply v)
  | fault (f : FaultRecord) (h : f.code ≠ 6) : BusEffect s { s with faults := recordFault f s.faults }
  | mode (v : Word) (h : v ∈ s.cfg.acceptedModes) : BusEffect s { s with mode := v, tbuf := s.cfg.build v }
  | start (h : s.en = false) : BusEffect s (startBlock s)
  | clearFlag (b : BufId) : BusEffect s (s.setBuf b (s.buf b).clearFlag)
  | pixel (b : BufId) (i : Nat) (v : Word) (h : i < bufPairs) : BusEffect s (s.setBuf b ((s.buf b).setPixel i v))

/-- What TW, LEN and PAIR do to the state. -/
inductive TakeEffect (s : State) : State → Prop where
  | stall : TakeEffect s s
  | tw (hs vs trig : Bool) (period : Half) (ready : tgReady s = true) (legal : period ≠ 0) :
      TakeEffect s
        { s with
          tfifo := s.tfifo.tail
          hs := hs
          vs := vs
          trig := trigAfterWord s.trig trig
          tgCur := some (twWord hs vs trig period)
          out := s.out ++ [.syncPins hs vs period.toNat] }
  | twBad (w : Word) (ready : tgReady s = true) : TakeEffect s { s with faults := recordFault (.twBad w) s.faults }
  | len (n : Half) (ready : popLenReady s = true) :
      TakeEffect s { s with pfifo := s.pfifo.tail, popPhase := .pix (n.toNat + 1) }
  | pair (c : Nat) (pix0 pix1 : Colour) (ready : popPairReady s = some c) :
      TakeEffect s
        { s with
          pfifo := s.pfifo.tail
          rgb := pix1
          out := s.out ++ [.rgbPins pix0 s.cfg.cpp, .rgbPins pix1 s.cfg.cpp]
          popPhase := popPhaseAfterPair c }

theorem readBufPix_effect (b : BufId) (i : BitVec 9) (s : State) : ∃ t, readBufPix b i s = .next t ∧ BusEffect s t := by
  unfold readBufPix
  split
  · exact ⟨_, rfl, .reply _⟩
  · exact ⟨_, rfl, .fault _ (by simp [FaultRecord.code])⟩

theorem writeBufPix_effect (b : BufId) (i : BitVec 9) (v : Word) (s : State) :
    ∃ t, writeBufPix b i v s = .next t ∧ BusEffect s t := by
  unfold writeBufPix
  split
  · exact ⟨_, rfl, .pixel _ _ _ (by assumption)⟩
  · exact ⟨_, rfl, .fault _ (by simp [FaultRecord.code])⟩

theorem writeBufFlag_effect (b : BufId) (v : Word) (s : State) : ∃ t, writeBufFlag b v s = .next t ∧ BusEffect s t := by
  unfold writeBufFlag
  split
  · exact ⟨_, rfl, .fault _ (by simp [FaultRecord.code])⟩
  · exact ⟨_, rfl, .clearFlag _⟩

theorem execWrMode_effect (v : Word) (s : State) : ∃ t, execWrMode v s = .next t ∧ BusEffect s t := by
  unfold execWrMode
  split
  · exact ⟨_, rfl, .mode _ (by assumption)⟩
  · exact ⟨_, rfl, .nothing⟩

theorem execWrCtrl_effect (v : Word) (s : State) : ∃ t, execWrCtrl v s = .next t ∧ BusEffect s t := by
  unfold execWrCtrl
  split
  · exact ⟨_, rfl, .fault _ (by simp [FaultRecord.code])⟩
  · split
    · rename_i h
      exact ⟨_, rfl, .start (by simpa using (Bool.and_eq_true_iff.mp h).2)⟩
    · exact ⟨_, rfl, .nothing⟩

theorem execRdTbuf_effect (k j : BitVec 2) (s : State) : ∃ t, execRdTbuf k j s = .next t ∧ BusEffect s t := by
  unfold execRdTbuf
  split
  · exact ⟨_, rfl, .reply _⟩
  · exact ⟨_, rfl, .fault _ (by simp [FaultRecord.code])⟩

theorem execWrRoTbuf_effect (k j : BitVec 2) (v : Word) (s : State) :
    ∃ t, execWrRoTbuf k j v s = .next t ∧ BusEffect s t := by
  unfold execWrRoTbuf
  split
  · exact ⟨_, rfl, .fault _ (by simp [FaultRecord.code])⟩
  · exact ⟨_, rfl, .fault _ (by simp [FaultRecord.code])⟩

/-- A bus operation answers a next state with one of the bus effects. -/
theorem exec_bus_effect {i : Instr} (h : isBusOperation i = true) (s : State) : ∃ t, exec i s = .next t ∧ BusEffect s t := by
  cases i with
  | tw => simp [isBusOperation] at h
  | len => simp [isBusOperation] at h
  | pair => simp [isBusOperation] at h
  | wrMode v => exact execWrMode_effect v s
  | wrCtrl v => exact execWrCtrl_effect v s
  | wrBuf0Flag v => exact writeBufFlag_effect .buf0 v s
  | wrBuf1Flag v => exact writeBufFlag_effect .buf1 v s
  | rdBuf0Pix i => exact readBufPix_effect .buf0 i s
  | rdBuf1Pix i => exact readBufPix_effect .buf1 i s
  | wrBuf0Pix i v => exact writeBufPix_effect .buf0 i v s
  | wrBuf1Pix i v => exact writeBufPix_effect .buf1 i v s
  | rdTbuf k j => exact execRdTbuf_effect k j s
  | wrRoTbuf k j v => exact execWrRoTbuf_effect k j v s
  | wrRoScanline | wrRoTimingLine | wrRoVisLines | wrRoTextDims | wrRoFbAddr | wrRoClash | wrRoNeedsMemory | wrRoBuf0Line
  | wrRoBuf0Len | wrRoBuf1Line | wrRoBuf1Len | wrRoPalette | wrRoClut =>
    exact ⟨_, rfl, .fault _ (by simp [FaultRecord.code])⟩
  | _ => exact ⟨_, rfl, .reply _⟩

theorem execTw_effect (hs vs trig : Bool) (period : Half) (s : State) :
    ∃ t, execTw hs vs trig period s = .next t ∧ TakeEffect s t := by
  unfold execTw
  split
  · split
    · exact ⟨_, rfl, .twBad _ (by assumption)⟩
    · exact ⟨_, rfl, .tw _ _ _ _ (by assumption) (by assumption)⟩
  · exact ⟨_, rfl, .stall⟩

theorem execLen_effect (n ign : Half) (s : State) : ∃ t, execLen n ign s = .next t ∧ TakeEffect s t := by
  unfold execLen
  split
  · exact ⟨_, rfl, .len _ (by assumption)⟩
  · exact ⟨_, rfl, .stall⟩

theorem execPair_effect (p0 : Colour) (lo : BitVec 4) (p1 : Colour) (hi : BitVec 4) (s : State) :
    ∃ t, execPair p0 lo p1 hi s = .next t ∧ TakeEffect s t := by
  unfold execPair
  split
  · exact ⟨_, rfl, .pair _ _ _ (by assumption)⟩
  · exact ⟨_, rfl, .stall⟩

/-- Every instruction answers a next state, with one of the effects of its kind. -/
theorem exec_effect (i : Instr) (s : State) : ∃ t, exec i s = .next t ∧ (BusEffect s t ∨ TakeEffect s t) := by
  by_cases h : isBusOperation i = true
  · obtain ⟨t, ht, he⟩ := exec_bus_effect h s
    exact ⟨t, ht, .inl he⟩
  · cases i with
    | tw hs vs trig period => obtain ⟨t, ht, he⟩ := execTw_effect hs vs trig period s; exact ⟨t, ht, .inr he⟩
    | len n ign => obtain ⟨t, ht, he⟩ := execLen_effect n ign s; exact ⟨t, ht, .inr he⟩
    | pair p0 lo p1 hi => obtain ⟨t, ht, he⟩ := execPair_effect p0 lo p1 hi s; exact ⟨t, ht, .inr he⟩
    | _ => exact absurd rfl h

/-- The bus decoder gives bus operations only. -/
theorem decodeBus_isBusOperation {key : Half} {data : Word} {i : Instr} (h : decode (.bus key data) = .ok i) :
    isBusOperation i = true := by
  simp only [decode, decodeBus] at h
  split at h
  · simp at h
  · rename_i row _
    split at h
    · simp only [Except.ok.injEq] at h
      subst h
      cases row <;> rfl
    · simp at h

/-- An access to the window answers a next state, with a bus effect at the state in which its bus master is named. -/
theorem accessWindow_effect (m : Master) (offset : Word) (width : Width) (write : Bool) (data : Word) (s : State) :
    ∃ t, accessWindow m offset width write data s = .next t ∧ (BusEffect s t ∨ BusEffect { s with master := m } t) := by
  rcases accessWindow_cases m offset width write data s with ⟨f, hf, h⟩ | ⟨i, hi, h⟩
  · exact ⟨_, h, .inl (.fault f hf)⟩
  · obtain ⟨t, ht, he⟩ := exec_bus_effect (decodeBus_isBusOperation hi) { s with master := m }
    exact ⟨t, h.trans ht, .inr he⟩

end Sys2Proof.Machine
end

