-- ==== Sys2Proof/Laws/Params.lean ====
section
/-! SUPPORT. What an accepted configuration gives (R8, assumption 5), said once. -/

namespace Sys2Proof

/-- V_VIS is even (R8). -/
theorem Params.ok_even {c : Params} (h : c.ok = true) (s : Standard) : c.vVis.get s % 2 = 0 := by
  simp only [Params.ok, Params.r8, Params.standardOk, Bool.and_eq_true, decide_eq_true_eq] at h
  cases s <;> grind

/-- Every period fits the PERIOD field and is not 0. -/
theorem Params.ok_period {c : Params} (h : c.ok = true) (s : Standard) (j : Slot) : 1 ≤ c.period s j ∧ c.period s j ≤ 65535 := by
  simp only [Params.ok, Params.r8, Params.standardOk, Bool.and_eq_true, decide_eq_true_eq] at h
  cases s <;> cases j <;> grind

/-- The FIFOs have room for a word, a line has 2 * BUF_PAIRS pixels. -/
theorem Params.ok_fifos {c : Params} (h : c.ok = true) :
    1 ≤ c.tfifoDepth ∧ 1 ≤ c.pfifoDepth ∧ c.hPixels.vis = 2 * bufPairs := by
  simp only [Params.ok, Params.r8, Params.fits, Bool.and_eq_true, decide_eq_true_eq] at h
  grind

/-- Every mode the block can hold: no reserved bit, a visible line, line numbers in 16 bits, rows in 8 bits, rows and columns within the
grid bound. -/
theorem Params.ok_mode {c : Params} (h : c.ok = true) {m : Word} (hm : c.Selectable m) :
    modeReserved m = 0 ∧ 1 ≤ c.vis m ∧ c.bpEnd m ≤ 65536 ∧ c.rows m ≤ 255 ∧ c.rows m ≤ c.maxRows ∧ modeColumns m ≤ c.maxCols := by
  simp only [Params.ok, Params.fits, Bool.and_eq_true, List.all_eq_true, List.mem_cons] at h
  simpa only [Params.modeFits, Bool.and_eq_true, decide_eq_true_eq, and_assoc] using h.2.1.1 m hm

/-- What bases that fit give: each region in the bus space, the grid not null, the window word-aligned, and all four apart. -/
theorem Bases.fit_iff (b : Bases) (gridBytes : Nat) : b.fit gridBytes = true ↔
    (b.gridBase.toNat ≠ 0 ∧ b.vidBase.toNat % 4 = 0) ∧
    (b.vidBase.toNat + windowBytes ≤ 2 ^ 32 ∧ b.gridBase.toNat + gridBytes ≤ 2 ^ 32 ∧
      b.font8Base.toNat + font8Bytes ≤ 2 ^ 32 ∧ b.font16Base.toNat + font16Bytes ≤ 2 ^ 32) ∧
    ((b.gridBase.toNat + gridBytes ≤ b.vidBase.toNat ∨ b.vidBase.toNat + windowBytes ≤ b.gridBase.toNat) ∧
      (b.font8Base.toNat + font8Bytes ≤ b.vidBase.toNat ∨ b.vidBase.toNat + windowBytes ≤ b.font8Base.toNat) ∧
      (b.font16Base.toNat + font16Bytes ≤ b.vidBase.toNat ∨ b.vidBase.toNat + windowBytes ≤ b.font16Base.toNat)) ∧
    (b.font8Base.toNat + font8Bytes ≤ b.gridBase.toNat ∨ b.gridBase.toNat + gridBytes ≤ b.font8Base.toNat) ∧
    (b.font16Base.toNat + font16Bytes ≤ b.gridBase.toNat ∨ b.gridBase.toNat + gridBytes ≤ b.font16Base.toNat) ∧
    (b.font8Base.toNat + font8Bytes ≤ b.font16Base.toNat ∨ b.font16Base.toNat + font16Bytes ≤ b.font8Base.toNat) := by
  simp only [Bases.fit, Region.inSpace, Region.apart, Bool.and_eq_true, decide_eq_true_eq, and_assoc]

/-- The regions of an accepted configuration. -/
theorem Params.ok_bases {c : Params} (h : c.ok = true) : c.toBases.fit c.gridBytes = true := by
  simp only [Params.ok, Params.fits, Bool.and_eq_true] at h
  exact h.2.1.2

/-- The grid: not null, in the bus space. -/
theorem Params.ok_grid {c : Params} (h : c.ok = true) : c.gridBase.toNat ≠ 0 ∧ c.gridBase.toNat + 2 * c.maxCols * c.maxRows ≤ 2 ^ 32 := by
  have hb := (Bases.fit_iff _ _).mp (Params.ok_bases h)
  exact ⟨hb.1.1, hb.2.1.2.1⟩

/-- The window: word-aligned, in the bus space. -/
theorem Params.ok_window {c : Params} (h : c.ok = true) : c.vidBase.toNat % 4 = 0 ∧ c.vidBase.toNat + 0x10000 ≤ 2 ^ 32 := by
  have hb := (Bases.fit_iff _ _).mp (Params.ok_bases h)
  exact ⟨hb.1.2, hb.2.1.1⟩

/-- The lines of a standard come in the order VIS, FP_END, SYNC_END, BP_END. -/
theorem Params.boundaries (c : Params) (s : Standard) :
    c.vVis.get s ≤ c.fpEndOf s ∧ c.fpEndOf s ≤ c.syncEndOf s ∧ c.syncEndOf s ≤ c.bpEndOf s := by
  simp only [Params.fpEndOf, Params.syncEndOf, Params.bpEndOf]
  omega

/-- The PERIOD field holds the period. -/
theorem Params.periodField_toNat {c : Params} (h : c.ok = true) (s : Standard) (j : Slot) :
    ((c.periodField s j).toNat : Int) = c.period s j := by
  have := Params.ok_period h s j
  simp [Params.periodField, BitVec.toNat_ofInt]
  omega

/-! ### The parameters of the machine after reset are accepted -/

/-- The bases of the machine after reset fit, whatever the draw. -/
theorem Config.bases_fit : Config.bases.fit Config.gridBytes = true := by
  unfold Config.bases
  split
  · assumption
  · decide

/-- Every period of the machine after reset is one of 1..65535. -/
theorem Config.params_period (s : Standard) (j : Slot) :
    Config.params.period s j = 1 + ((Config.corrDraw s j % 65535 : Nat) : Int) := by
  cases s <;> cases j <;> simp [Params.period, Config.params, Config.corrSlots, Config.corrOf]

theorem Config.params_r8 : Config.params.r8 = true := by
  have hper : ∀ s j, 1 ≤ Config.params.period s j ∧ Config.params.period s j ≤ 65535 := by
    intro s j
    rw [Config.params_period]
    omega
  have hv : ∀ s, Config.params.vVis.get s % 2 = 0 := by intro s; cases s <;> rfl
  simp only [Params.r8, Params.standardOk, hper, hv, and_self, decide_true, Bool.and_self, Bool.true_and]
  rfl

theorem Config.params_fits : Config.params.fits = true := by
  have hm : ((0 :: Config.params.acceptedModes).all Config.params.modeFits) = true := rfl
  have hb : Config.params.toBases.fit Config.params.gridBytes = true := Config.bases_fit
  simp only [Params.fits, hm, hb, Bool.true_and]
  rfl

/-- The parameters of the machine after reset are an accepted configuration (R8). -/
theorem Config.params_ok : Config.params.ok = true := by
  simp only [Params.ok, Config.params_r8, Config.params_fits, Bool.and_self]

end Sys2Proof
end

