-- ==== Sys2Proof/Laws/Words.lean ====
section
/-! SUPPORT. The fields of a word built from fields are those fields, and a word is rebuilt from its fields (R111, R113, R117). -/

namespace Sys2Proof

theorem bitWord_getLsbD (b : Bool) (i : Nat) : (bitWord b).getLsbD i = (decide (i = 0) && b) := by
  cases b <;> simp [bitWord, BitVec.getLsbD_one]

/-- Bit i of a timing word, by field. -/
theorem twWord_getLsbD (h v t : Bool) (p : Half) (i : Nat) (hi : i < 32) :
    (twWord h v t p).getLsbD i =
      if i = 0 then h else if i = 1 then v else if i = 2 then t else if i < 16 then false else p.getLsbD (i - 16) := by
  simp only [twWord, BitVec.getLsbD_or, BitVec.getLsbD_shiftLeft, BitVec.getLsbD_setWidth, bitWord_getLsbD]
  rcases Nat.lt_or_ge i 3 with h3 | h3
  · interval_cases i <;> simp
  · have e0 : ¬ i = 0 := by omega
    have e1 : ¬ i = 1 := by omega
    have e2 : ¬ i = 2 := by omega
    have f1 : ¬ i - 1 = 0 := by omega
    have f2 : ¬ i - 2 = 0 := by omega
    by_cases h16 : i < 16
    · simp [e0, e1, e2, f1, f2, h16]
    · simp [e0, e1, e2, f1, f2, h16, hi]
      intro hp
      have := BitVec.lt_of_getLsbD hp
      omega

@[simp] theorem twHs_twWord (h v t : Bool) (p : Half) : twHs (twWord h v t p) = h := by
  rw [twHs, twWord_getLsbD _ _ _ _ _ (by decide)]; rfl

@[simp] theorem twVs_twWord (h v t : Bool) (p : Half) : twVs (twWord h v t p) = v := by
  rw [twVs, twWord_getLsbD _ _ _ _ _ (by decide)]; rfl

@[simp] theorem twTrig_twWord (h v t : Bool) (p : Half) : twTrig (twWord h v t p) = t := by
  rw [twTrig, twWord_getLsbD _ _ _ _ _ (by decide)]; rfl

@[simp] theorem twReserved_twWord (h v t : Bool) (p : Half) : twReserved (twWord h v t p) = 0 := by
  apply BitVec.eq_of_getLsbD_eq
  intro i hi
  simp only [twReserved, BitVec.getLsbD_extractLsb', hi, decide_true, Bool.true_and]
  rw [twWord_getLsbD _ _ _ _ _ (by omega)]
  simp [show ¬ 3 + i = 1 by omega, show ¬ 3 + i = 2 by omega, show 3 + i < 16 by omega]

@[simp] theorem twPeriod_twWord (h v t : Bool) (p : Half) : twPeriod (twWord h v t p) = p := by
  apply BitVec.eq_of_getLsbD_eq
  intro i hi
  simp only [twPeriod, BitVec.getLsbD_extractLsb', hi, decide_true, Bool.true_and]
  rw [twWord_getLsbD _ _ _ _ _ (by omega)]
  have e1 : ¬ 16 + i = 1 := by omega
  have e2 : ¬ 16 + i = 2 := by omega
  simp [e1, e2]

/-- A word with its reserved bits 0 is the timing word of its fields. -/
theorem twWord_fields {w : Word} (h : twReserved w = 0) : twWord (twHs w) (twVs w) (twTrig w) (twPeriod w) = w := by
  apply BitVec.eq_of_getLsbD_eq
  intro i hi
  rw [twWord_getLsbD _ _ _ _ _ hi]
  split
  · subst_vars; rfl
  split
  · subst_vars; rfl
  split
  · subst_vars; rfl
  split
  · have hb := congrArg (fun x => x.getLsbD (i - 3)) h
    simp only [twReserved, BitVec.getLsbD_extractLsb'] at hb
    have e : 3 + (i - 3) = i := by omega
    rw [e] at hb
    simpa [show i - 3 < 13 by omega] using hb.symm
  · have e : 16 + (i - 16) = i := by omega
    simp [twPeriod, e]
    omega

/-- A timing word built from fields is legal exactly when its period is not 0. -/
theorem twLegal_twWord (h v t : Bool) (p : Half) : twLegal (twWord h v t p) = decide (p ≠ 0) := by
  simp [twLegal]

@[simp] theorem lenN_lenWord (n ign : Half) : lenN (lenWord n ign) = n := by
  apply BitVec.eq_of_getLsbD_eq
  intro i hi
  simp only [lenN, lenWord, BitVec.getLsbD_extractLsb', BitVec.getLsbD_append]
  simp [hi]

@[simp] theorem lenIgnored_lenWord (n ign : Half) : lenIgnored (lenWord n ign) = ign := by
  apply BitVec.eq_of_getLsbD_eq
  intro i hi
  simp only [lenIgnored, lenWord, BitVec.getLsbD_extractLsb', BitVec.getLsbD_append]
  simp [hi]

theorem lenWord_fields (w : Word) : lenWord (lenN w) (lenIgnored w) = w := by
  apply BitVec.eq_of_getLsbD_eq
  intro i hi
  simp only [lenWord, lenN, lenIgnored, BitVec.getLsbD_append, BitVec.getLsbD_extractLsb']
  by_cases h : i < 16
  · simp [h]
  · simp [h, show i - 16 < 16 by omega, show 16 + (i - 16) = i by omega]

/-- Bit i of a PAIR word, by field. -/
theorem pairWord_getLsbD (p0 : Colour) (lo : BitVec 4) (p1 : Colour) (hi : BitVec 4) (i : Nat) :
    (pairWord p0 lo p1 hi).getLsbD i =
      if i < 12 then p0.getLsbD i else if i < 16 then lo.getLsbD (i - 12)
      else if i < 28 then p1.getLsbD (i - 16) else hi.getLsbD (i - 28) := by
  simp only [pairWord, BitVec.getLsbD_append]
  by_cases h1 : i < 12
  · simp [h1, show i < 16 by omega]
  · by_cases h2 : i < 16
    · simp [h1, h2]
    · by_cases h3 : i < 28
      · simp [h1, h2, h3, show i - 16 < 12 by omega]
      · simp [h1, h2, h3, show ¬ i - 16 < 12 by omega, show i - 16 - 12 = i - 28 by omega]

@[simp] theorem pairPix0_pairWord (p0 : Colour) (lo : BitVec 4) (p1 : Colour) (hi : BitVec 4) :
    pairPix0 (pairWord p0 lo p1 hi) = p0 := by
  apply BitVec.eq_of_getLsbD_eq
  intro i h
  simp [pairPix0, pairWord_getLsbD, h]

@[simp] theorem pairIgnLo_pairWord (p0 : Colour) (lo : BitVec 4) (p1 : Colour) (hi : BitVec 4) :
    pairIgnLo (pairWord p0 lo p1 hi) = lo := by
  apply BitVec.eq_of_getLsbD_eq
  intro i h
  simp [pairIgnLo, pairWord_getLsbD, h, show 12 + i < 16 by omega]

@[simp] theorem pairPix1_pairWord (p0 : Colour) (lo : BitVec 4) (p1 : Colour) (hi : BitVec 4) :
    pairPix1 (pairWord p0 lo p1 hi) = p1 := by
  apply BitVec.eq_of_getLsbD_eq
  intro i h
  simp [pairPix1, pairWord_getLsbD, h, show ¬ 16 + i < 12 by omega, show 16 + i < 28 by omega]

@[simp] theorem pairIgnHi_pairWord (p0 : Colour) (lo : BitVec 4) (p1 : Colour) (hi : BitVec 4) :
    pairIgnHi (pairWord p0 lo p1 hi) = hi := by
  apply BitVec.eq_of_getLsbD_eq
  intro i h
  simp [pairIgnHi, pairWord_getLsbD, h, show ¬ 28 + i < 12 by omega, show ¬ 28 + i < 16 by omega]

theorem pairWord_fields (w : Word) : pairWord (pairPix0 w) (pairIgnLo w) (pairPix1 w) (pairIgnHi w) = w := by
  apply BitVec.eq_of_getLsbD_eq
  intro i hi
  rw [pairWord_getLsbD]
  simp only [pairPix0, pairIgnLo, pairPix1, pairIgnHi, BitVec.getLsbD_extractLsb']
  split
  · simp [*]
  split
  · simp [show i - 12 < 4 by omega, show 12 + (i - 12) = i by omega]
  split
  · simp [show i - 16 < 12 by omega, show 16 + (i - 16) = i by omega]
  · simp [show i - 28 < 4 by omega, show 28 + (i - 28) = i by omega]

end Sys2Proof
end

