-- ==== Sys2Proof/Laws/PerInstr.lean ====
section
/-! SUPPORT. Laws said of every instruction as syntax, one lemma for each constructor. -/

namespace Sys2Proof.Laws.TableWord

/-- The instruction's encoding has its opcode-table row's fixed bits: a timing word's bits 15:3 are 0, a bus key matches a row;
LEN and PAIR have none (spec/opcode_table.json). -/
def Statement (i : Instr) : Prop :=
  match encode i with
  | .tw w => twReserved w = 0
  | .len _ => True
  | .pair _ => True
  | .bus key _ => (busRowOf key).isSome = true

theorem tw (hs vs trig : Bool) (period : Half) : Statement (.tw hs vs trig period) := twReserved_twWord hs vs trig period

theorem len (n ign : Half) : Statement (.len n ign) := trivial

theorem pair (pix0 : Colour) (ignLo : BitVec 4) (pix1 : Colour) (ignHi : BitVec 4) : Statement (.pair pix0 ignLo pix1 ignHi) := trivial

theorem rdMode : Statement (.rdMode) := rfl

theorem wrMode (v : Word) : Statement (.wrMode v) := rfl

theorem rdCtrl : Statement (.rdCtrl) := rfl

theorem wrCtrl (v : Word) : Statement (.wrCtrl v) := rfl

theorem rdScanline : Statement (.rdScanline) := rfl

theorem rdTimingLine : Statement (.rdTimingLine) := rfl

theorem rdVisLines : Statement (.rdVisLines) := rfl

theorem rdTextDims : Statement (.rdTextDims) := rfl

theorem rdFbAddr : Statement (.rdFbAddr) := rfl

theorem rdClash : Statement (.rdClash) := rfl

theorem rdNeedsMemory : Statement (.rdNeedsMemory) := rfl

theorem rdBuf0Flag : Statement (.rdBuf0Flag) := rfl

theorem wrBuf0Flag (v : Word) : Statement (.wrBuf0Flag v) := rfl

theorem rdBuf0Line : Statement (.rdBuf0Line) := rfl

theorem rdBuf0Len : Statement (.rdBuf0Len) := rfl

theorem rdBuf1Flag : Statement (.rdBuf1Flag) := rfl

theorem wrBuf1Flag (v : Word) : Statement (.wrBuf1Flag v) := rfl

theorem rdBuf1Line : Statement (.rdBuf1Line) := rfl

theorem rdBuf1Len : Statement (.rdBuf1Len) := rfl

theorem rdBuf0Pix (i : BitVec 9) : Statement (.rdBuf0Pix i) := by
  have h : ∀ i : BitVec 9, (busRowOf (windowKey 0x1000 (i.setWidth 16))).isSome = true := by decide +kernel
  exact h i

theorem wrBuf0Pix (i : BitVec 9) (v : Word) : Statement (.wrBuf0Pix i v) := by
  have h : ∀ i : BitVec 9, (busRowOf (windowKey 0x1001 (i.setWidth 16))).isSome = true := by decide +kernel
  exact h i

theorem rdBuf1Pix (i : BitVec 9) : Statement (.rdBuf1Pix i) := by
  have h : ∀ i : BitVec 9, (busRowOf (windowKey 0x2000 (i.setWidth 16))).isSome = true := by decide +kernel
  exact h i

theorem wrBuf1Pix (i : BitVec 9) (v : Word) : Statement (.wrBuf1Pix i v) := by
  have h : ∀ i : BitVec 9, (busRowOf (windowKey 0x2001 (i.setWidth 16))).isSome = true := by decide +kernel
  exact h i

theorem rdPalette (i : BitVec 8) : Statement (.rdPalette i) := by
  have h : ∀ i : BitVec 8, (busRowOf (windowKey 0x3000 (i.setWidth 16))).isSome = true := by decide +kernel
  exact h i

theorem rdClut (i : BitVec 9) : Statement (.rdClut i) := by
  have h : ∀ i : BitVec 9, (busRowOf (windowKey 0x4000 (i.setWidth 16))).isSome = true := by decide +kernel
  exact h i

theorem rdTbuf (k j : BitVec 2) : Statement (.rdTbuf k j) := by
  have h : ∀ k j : BitVec 2, (busRowOf (tbufKey 0x5000 k j)).isSome = true := by decide +kernel
  exact h k j

theorem wrRoScanline (v : Word) : Statement (.wrRoScanline v) := rfl

theorem wrRoTimingLine (v : Word) : Statement (.wrRoTimingLine v) := rfl

theorem wrRoVisLines (v : Word) : Statement (.wrRoVisLines v) := rfl

theorem wrRoTextDims (v : Word) : Statement (.wrRoTextDims v) := rfl

theorem wrRoFbAddr (v : Word) : Statement (.wrRoFbAddr v) := rfl

theorem wrRoClash (v : Word) : Statement (.wrRoClash v) := rfl

theorem wrRoNeedsMemory (v : Word) : Statement (.wrRoNeedsMemory v) := rfl

theorem wrRoBuf0Line (v : Word) : Statement (.wrRoBuf0Line v) := rfl

theorem wrRoBuf0Len (v : Word) : Statement (.wrRoBuf0Len v) := rfl

theorem wrRoBuf1Line (v : Word) : Statement (.wrRoBuf1Line v) := rfl

theorem wrRoBuf1Len (v : Word) : Statement (.wrRoBuf1Len v) := rfl

theorem wrRoPalette (i : BitVec 8) (v : Word) : Statement (.wrRoPalette i v) := by
  have h : ∀ i : BitVec 8, (busRowOf (windowKey 0x3001 (i.setWidth 16))).isSome = true := by decide +kernel
  exact h i

theorem wrRoClut (i : BitVec 9) (v : Word) : Statement (.wrRoClut i v) := by
  have h : ∀ i : BitVec 9, (busRowOf (windowKey 0x4001 (i.setWidth 16))).isSome = true := by decide +kernel
  exact h i

theorem wrRoTbuf (k j : BitVec 2) (v : Word) : Statement (.wrRoTbuf k j v) := by
  have h : ∀ k j : BitVec 2, (busRowOf (tbufKey 0x5001 k j)).isSome = true := by decide +kernel
  exact h k j

end Sys2Proof.Laws.TableWord
end

