-- ==== Sys2Proof/Laws/Step.lean ====
section
/-! SUPPORT. What a step of each agent can do, said once: the inversion lemma of agentStep and of step. -/

namespace Sys2Proof.Machine

/-- The fields only the bus masters' side uses replaced: the two ports, the bus master named, PROD's place. -/
def State.withSide (s : State) (hp pp : Port) (m : Master) (ph : ProdPhase) : State :=
  { s with hostPort := hp, prodPort := pp, master := m, prod := ph }

@[simp] theorem State.withSide_self (s : State) : s.withSide s.hostPort s.prodPort s.master s.prod = s := rfl

@[simp] theorem State.withSide_withSide (s : State) (hp pp hp' pp' : Port) (m m' : Master) (ph ph' : ProdPhase) :
    (s.withSide hp pp m ph).withSide hp' pp' m' ph' = s.withSide hp' pp' m' ph' := rfl

@[simp] theorem State.withSide_cfg (s : State) (hp pp : Port) (m : Master) (ph : ProdPhase) : (s.withSide hp pp m ph).cfg = s.cfg := rfl
@[simp] theorem State.withSide_mode (s : State) (hp pp : Port) (m : Master) (ph : ProdPhase) : (s.withSide hp pp m ph).mode = s.mode := rfl
@[simp] theorem State.withSide_en (s : State) (hp pp : Port) (m : Master) (ph : ProdPhase) : (s.withSide hp pp m ph).en = s.en := rfl
@[simp] theorem State.withSide_tbuf (s : State) (hp pp : Port) (m : Master) (ph : ProdPhase) : (s.withSide hp pp m ph).tbuf = s.tbuf := rfl
@[simp] theorem State.withSide_palette (s : State) (hp pp : Port) (m : Master) (ph : ProdPhase) : (s.withSide hp pp m ph).palette = s.palette := rfl
@[simp] theorem State.withSide_clut (s : State) (hp pp : Port) (m : Master) (ph : ProdPhase) : (s.withSide hp pp m ph).clut = s.clut := rfl
@[simp] theorem State.withSide_t (s : State) (hp pp : Port) (m : Master) (ph : ProdPhase) : (s.withSide hp pp m ph).t = s.t := rfl
@[simp] theorem State.withSide_p (s : State) (hp pp : Port) (m : Master) (ph : ProdPhase) : (s.withSide hp pp m ph).p = s.p := rfl
@[simp] theorem State.withSide_pbuf (s : State) (hp pp : Port) (m : Master) (ph : ProdPhase) : (s.withSide hp pp m ph).pbuf = s.pbuf := rfl
@[simp] theorem State.withSide_clash (s : State) (hp pp : Port) (m : Master) (ph : ProdPhase) : (s.withSide hp pp m ph).clash = s.clash := rfl
@[simp] theorem State.withSide_tDone (s : State) (hp pp : Port) (m : Master) (ph : ProdPhase) : (s.withSide hp pp m ph).tDone = s.tDone := rfl
@[simp] theorem State.withSide_pDone (s : State) (hp pp : Port) (m : Master) (ph : ProdPhase) : (s.withSide hp pp m ph).pDone = s.pDone := rfl
@[simp] theorem State.withSide_dmaT (s : State) (hp pp : Port) (m : Master) (ph : ProdPhase) : (s.withSide hp pp m ph).dmaT = s.dmaT := rfl
@[simp] theorem State.withSide_dmaP (s : State) (hp pp : Port) (m : Master) (ph : ProdPhase) : (s.withSide hp pp m ph).dmaP = s.dmaP := rfl
@[simp] theorem State.withSide_tfifo (s : State) (hp pp : Port) (m : Master) (ph : ProdPhase) : (s.withSide hp pp m ph).tfifo = s.tfifo := rfl
@[simp] theorem State.withSide_tgCur (s : State) (hp pp : Port) (m : Master) (ph : ProdPhase) : (s.withSide hp pp m ph).tgCur = s.tgCur := rfl
@[simp] theorem State.withSide_hs (s : State) (hp pp : Port) (m : Master) (ph : ProdPhase) : (s.withSide hp pp m ph).hs = s.hs := rfl
@[simp] theorem State.withSide_vs (s : State) (hp pp : Port) (m : Master) (ph : ProdPhase) : (s.withSide hp pp m ph).vs = s.vs := rfl
@[simp] theorem State.withSide_trig (s : State) (hp pp : Port) (m : Master) (ph : ProdPhase) : (s.withSide hp pp m ph).trig = s.trig := rfl
@[simp] theorem State.withSide_popPhase (s : State) (hp pp : Port) (m : Master) (ph : ProdPhase) : (s.withSide hp pp m ph).popPhase = s.popPhase := rfl
@[simp] theorem State.withSide_pfifo (s : State) (hp pp : Port) (m : Master) (ph : ProdPhase) : (s.withSide hp pp m ph).pfifo = s.pfifo := rfl
@[simp] theorem State.withSide_rgb (s : State) (hp pp : Port) (m : Master) (ph : ProdPhase) : (s.withSide hp pp m ph).rgb = s.rgb := rfl
@[simp] theorem State.withSide_buf0 (s : State) (hp pp : Port) (m : Master) (ph : ProdPhase) : (s.withSide hp pp m ph).buf0 = s.buf0 := rfl
@[simp] theorem State.withSide_buf1 (s : State) (hp pp : Port) (m : Master) (ph : ProdPhase) : (s.withSide hp pp m ph).buf1 = s.buf1 := rfl
@[simp] theorem State.withSide_faults (s : State) (hp pp : Port) (m : Master) (ph : ProdPhase) : (s.withSide hp pp m ph).faults = s.faults := rfl
@[simp] theorem State.withSide_out (s : State) (hp pp : Port) (m : Master) (ph : ProdPhase) : (s.withSide hp pp m ph).out = s.out := rfl
@[simp] theorem State.withSide_mem (s : State) (hp pp : Port) (m : Master) (ph : ProdPhase) : (s.withSide hp pp m ph).mem = s.mem := rfl
@[simp] theorem State.withSide_sched (s : State) (hp pp : Port) (m : Master) (ph : ProdPhase) : (s.withSide hp pp m ph).sched = s.sched := rfl
@[simp] theorem State.withSide_tick (s : State) (hp pp : Port) (m : Master) (ph : ProdPhase) : (s.withSide hp pp m ph).tick = s.tick := rfl
@[simp] theorem State.withSide_buf (s : State) (hp pp : Port) (m : Master) (ph : ProdPhase) (b : BufId) :
    (s.withSide hp pp m ph).buf b = s.buf b := by cases b <;> rfl

/-- t is s but for the bus masters' side. -/
def SameBlock (s t : State) : Prop := ∃ hp pp m ph, t = s.withSide hp pp m ph

theorem SameBlock.refl (s : State) : SameBlock s s := ⟨_, _, _, _, (State.withSide_self s).symm⟩

theorem SameBlock.trans {s t u : State} : SameBlock s t → SameBlock t u → SameBlock s u := by
  rintro ⟨a, b, c, d, rfl⟩ ⟨a', b', c', d', rfl⟩
  exact ⟨_, _, _, _, State.withSide_withSide _ _ _ _ _ _ _ _ _⟩

theorem SameBlock.setPort (s : State) (m : Master) (p : Port) : SameBlock s (s.setPort m p) := by
  cases m
  · exact ⟨p, s.prodPort, s.master, s.prod, rfl⟩
  · exact ⟨s.hostPort, p, s.master, s.prod, rfl⟩

theorem SameBlock.setRequests (s : State) (m : Master) (rs : List Request) : SameBlock s (s.setRequests m rs) :=
  SameBlock.setPort _ _ _

theorem SameBlock.setModeSet (s : State) (m : Master) (b : Bool) : SameBlock s (s.setModeSet m b) := SameBlock.setPort _ _ _

theorem SameBlock.reply (s : State) (v : Word) : SameBlock s (s.reply v) := SameBlock.setPort _ _ _

theorem SameBlock.master (s : State) (m : Master) : SameBlock s { s with master := m } := ⟨s.hostPort, s.prodPort, m, s.prod, rfl⟩

theorem SameBlock.prodAt (s : State) (ph : ProdPhase) : SameBlock s (s.prodAt ph) := ⟨s.hostPort, s.prodPort, s.master, ph, rfl⟩

/-- What a bus operation does to the block, by its own side left out: see BusEffect. -/
inductive BlockEffect (s : State) : State → Prop where
  | nothing : BlockEffect s s
  | fault (f : FaultRecord) (h : f.code ≠ 6) : BlockEffect s { s with faults := recordFault f s.faults }
  | mode (v : Word) (h : v ∈ s.cfg.acceptedModes) : BlockEffect s { s with mode := v, tbuf := s.cfg.build v }
  | start (h : s.en = false) : BlockEffect s (startBlock s)
  | clearFlag (b : BufId) : BlockEffect s (s.setBuf b (s.buf b).clearFlag)
  | pixel (b : BufId) (i : Nat) (v : Word) (h : i < bufPairs) : BlockEffect s (s.setBuf b ((s.buf b).setPixel i v))

theorem setBuf_withSide (s : State) (b : BufId) (f : ScanBuffer → ScanBuffer) (hp pp : Port) (m : Master) (ph : ProdPhase) :
    (s.withSide hp pp m ph).setBuf b (f ((s.withSide hp pp m ph).buf b)) = (s.setBuf b (f (s.buf b))).withSide hp pp m ph := by
  cases b <;> rfl

/-- A bus effect, the bus masters' side left out, is a block effect. -/
theorem BusEffect.block {s u t : State} (hu : SameBlock s u) (h : BusEffect u t) : ∃ t', BlockEffect s t' ∧ SameBlock t' t := by
  obtain ⟨hp, pp, m, ph, rfl⟩ := hu
  cases h with
  | nothing => exact ⟨_, .nothing, _, _, _, _, rfl⟩
  | reply v => exact ⟨_, .nothing, SameBlock.trans ⟨_, _, _, _, rfl⟩ (SameBlock.reply _ v)⟩
  | fault f h => exact ⟨_, .fault f h, hp, pp, m, ph, rfl⟩
  | mode v h => exact ⟨_, .mode v h, hp, pp, m, ph, rfl⟩
  | start h => exact ⟨_, .start h, hp, pp, m, ph, rfl⟩
  | clearFlag b => exact ⟨_, .clearFlag b, hp, pp, m, ph, setBuf_withSide s b ScanBuffer.clearFlag hp pp m ph⟩
  | pixel b i v h => exact ⟨_, .pixel b i v h, hp, pp, m, ph, setBuf_withSide s b (fun x => x.setPixel i v) hp pp m ph⟩

/-- What a step of agent a from s can lead to. -/
inductive AgentEffect (s : State) : Agent → State → Prop where
  /-- Nothing: the step is not enabled. -/
  | stall (a : Agent) : AgentEffect s a s
  | periodEnd (h : tgPeriodEndEnabled s = true) : AgentEffect s .tg (tgPeriodEnd s)
  | tw (w : Word) (ws : List Word) (ready : tgReady s = true) (head : s.tfifo = w :: ws) (legal : twLegal w = true) :
      AgentEffect s .tg
        { s with
          tfifo := ws
          hs := twHs w
          vs := twVs w
          trig := trigAfterWord s.trig (twTrig w)
          tgCur := some w
          out := s.out ++ [.syncPins (twHs w) (twVs w) (twPeriod w).toNat] }
  | twBad (w : Word) (ws : List Word) (ready : tgReady s = true) (head : s.tfifo = w :: ws) (illegal : twLegal w = false) :
      AgentEffect s .tg { s with faults := recordFault (.twBad w) s.faults }
  | popWait (h : popWaitEnabled s = true) : AgentEffect s .pop (popWait s)
  | popBlank (h : popBlankEnabled s = true) : AgentEffect s .pop (popBlank s)
  | len (w : Word) (ws : List Word) (en : s.en = true) (phase : s.popPhase = .len) (head : s.pfifo = w :: ws) :
      AgentEffect s .pop { s with pfifo := ws, popPhase := .pix ((lenN w).toNat + 1) }
  | pair (c : Nat) (w : Word) (ws : List Word) (en : s.en = true) (phase : s.popPhase = .pix c) (head : s.pfifo = w :: ws) :
      AgentEffect s .pop
        { s with
          pfifo := ws
          rgb := pairPix1 w
          out := s.out ++ [.rgbPins (pairPix0 w) s.cfg.cpp, .rgbPins (pairPix1 w) s.cfg.cpp]
          popPhase := popPhaseAfterPair c }
  | dmaT (k : Category) (j : Slot) (h : dmaTReady s = some (k, j)) : AgentEffect s .dmaT (dmaTTransfer k j s)
  | dmaP (b : BufId) (j : Nat) (h : dmaPReady s = some (b, j)) : AgentEffect s .dmaP (dmaPTransfer b j s)
  | seqT (h : seqTEnabled s = true) : AgentEffect s .seqT (seqT s)
  | seqP (h : seqPEnabled s = true) : AgentEffect s .seqP (seqP s)
  /-- A bus master's port: one bus operation. -/
  | bus (a : Agent) (ha : a = .hostBus ∨ a = .prodBus) (u t : State) (h : BlockEffect s u) (ht : SameBlock u t) : AgentEffect s a t
  /-- A bus master's port: a write to ordinary memory. -/
  | memory (a : Agent) (ha : a = .hostBus ∨ a = .prodBus) (x : Nat) (v : Word) (w : Width) (t : State)
      (h : inBusSpace x w.bytes = true) (ht : SameBlock (s.writeMem x v w) t) : AgentEffect s a t
  /-- PROD's loop: its own place and port only. -/
  | prod (t : State) (ht : SameBlock s t) : AgentEffect s .prodLoop t
  /-- PROD's loop: the release. -/
  | prodRelease (b : BufId) (t : State) (ht : SameBlock (s.setBuf b (s.buf b).clearFlag) t) : AgentEffect s .prodLoop t
  /-- PROD's loop: a pair written. -/
  | prodPair (b : BufId) (i : Nat) (v : Word) (h : i < bufPairs) (t : State)
      (ht : SameBlock (s.setBuf b ((s.buf b).setPixel i v)) t) : AgentEffect s .prodLoop t
  /-- PROD's loop: a pair past the end of the buffer, which no rendered column reaches, is an unmapped access. -/
  | prodUnmapped (f : FaultRecord) (h : f.code ≠ 6) (t : State)
      (ht : SameBlock { s with faults := recordFault f s.faults } t) : AgentEffect s .prodLoop t

theorem twLegal_of {w : Word} (h : twReserved w = 0) (hp : ¬ twPeriod w = 0) : twLegal w = true := by
  unfold twLegal
  rw [decide_eq_true h, decide_eq_true hp]
  rfl

theorem not_twLegal_of {w : Word} (h : ¬ twReserved w = 0) : twLegal w = false := by
  unfold twLegal
  rw [decide_eq_false h]
  rfl

theorem tgStep_effect {s t : State} (h : agentStep .tg s = .next t) : AgentEffect s .tg t := by
  simp only [agentStep, tgStep] at h
  split at h
  · rename_i he
    injection h with h
    exact h ▸ .periodEnd he
  · split at h
    · rename_i hr
      unfold tgTake at h
      split at h
      · injection h with h
        exact h ▸ .stall _
      · rename_i w ws hf
        simp only [decode, decodeTw] at h
        by_cases h0 : twReserved w = 0
        · rw [if_pos h0] at h
          simp only [exec, execTw, hr, if_true] at h
          by_cases hp : twPeriod w = 0
          · rw [if_pos hp, twWord_fields h0] at h
            injection h with h
            exact h ▸ .twBad w ws hr hf (by simp [twLegal, hp])
          · rw [if_neg hp, twWord_fields h0, hf] at h
            injection h with h
            exact h ▸ .tw w ws hr hf (twLegal_of h0 hp)
        · rw [if_neg h0] at h
          injection h with h
          exact h ▸ .twBad w ws hr hf (not_twLegal_of h0)
    · injection h with h
      exact h ▸ .stall _

theorem popStep_effect {s t : State} (h : agentStep .pop s = .next t) : AgentEffect s .pop t := by
  simp only [agentStep, popStep] at h
  split at h
  · rename_i he
    injection h with h
    exact h ▸ .popWait he
  · split at h
    · rename_i he
      injection h with h
      exact h ▸ .popBlank he
    · unfold popTake at h
      cases hp : s.popPhase with
      | wait => simp only [popRaw, hp] at h; injection h with h; exact h ▸ .stall _
      | blank => simp only [popRaw, hp] at h; injection h with h; exact h ▸ .stall _
      | len =>
        cases hf : s.pfifo with
        | nil => simp only [popRaw, hp, hf] at h; injection h with h; exact h ▸ .stall _
        | cons w ws =>
          simp only [popRaw, hp, hf, decode, exec, execLen, popLenReady] at h
          cases he : s.en with
          | false => simp [he] at h; exact h ▸ .stall _
          | true =>
            simp only [he, List.isEmpty_cons, Bool.not_false, Bool.and_self, decide_true, if_true, List.tail_cons] at h
            injection h with h
            rw [← he] at h
            exact h ▸ .len w ws he hp hf
      | pix c =>
        cases hf : s.pfifo with
        | nil => simp only [popRaw, hp, hf] at h; injection h with h; exact h ▸ .stall _
        | cons w ws =>
          simp only [popRaw, hp, hf, decode, exec, execPair, popPairReady] at h
          cases he : s.en with
          | false => simp [he] at h; exact h ▸ .stall _
          | true =>
            simp only [he, List.isEmpty_cons, Bool.not_false, Bool.and_self, if_true, List.tail_cons] at h
            injection h with h
            rw [← he] at h
            exact h ▸ .pair c w ws he hp hf

theorem accessWindow_block (m : Master) (offset : Word) (width : Width) (write : Bool) (data : Word) {s u : State}
    (hu : SameBlock s u) : ∃ t t', accessWindow m offset width write data u = .next t ∧ BlockEffect s t' ∧ SameBlock t' t := by
  obtain ⟨t, ht, he⟩ := accessWindow_effect m offset width write data u
  rcases he with he | he
  · obtain ⟨t', h1, h2⟩ := he.block hu
    exact ⟨t, t', ht, h1, h2⟩
  · obtain ⟨t', h1, h2⟩ := he.block (hu.trans (SameBlock.master u m))
    exact ⟨t, t', ht, h1, h2⟩

theorem writeMem_withSide (s : State) (x : Nat) (v : Word) (w : Width) (hp pp : Port) (m : Master) (ph : ProdPhase) :
    (s.withSide hp pp m ph).writeMem x v w = (s.writeMem x v w).withSide hp pp m ph := rfl

theorem portStep_effect {a : Agent} {m : Master} (ha : a = .hostBus ∨ a = .prodBus) {s t : State} (h : portStep m s = .next t) :
    AgentEffect s a t := by
  unfold portStep at h
  split at h
  · injection h with h
    exact h ▸ .stall _
  · rename_i r rest _
    cases r with
    | register offset width write data =>
      obtain ⟨u, u', h1, h2, h3⟩ := accessWindow_block m offset width write data (SameBlock.setRequests s m rest)
      simp only [serveRequest, h1] at h
      injection h with h
      exact h ▸ .bus a ha u' u h2 h3
    | address x width write data =>
      simp only [serveRequest, accessAddress] at h
      split at h
      · obtain ⟨u, u', h1, h2, h3⟩ := accessWindow_block m (x - (s.setRequests m rest).cfg.vidBase) width write data
          (SameBlock.setRequests s m rest)
        rw [h1] at h
        injection h with h
        exact h ▸ .bus a ha u' u h2 h3
      · unfold accessMemory at h
        split at h
        · rename_i hin
          split at h
          · injection h with h
            obtain ⟨hp, pp, mm, ph, hu⟩ := SameBlock.setRequests s m rest
            rw [hu, writeMem_withSide] at h
            exact h ▸ .memory a ha x.toNat data width _ hin ⟨_, _, _, _, rfl⟩
          · injection h with h
            exact h ▸ .bus a ha s _ .nothing
              ((SameBlock.setRequests s m rest).trans ((SameBlock.master _ m).trans (SameBlock.reply _ _)))
        · exact absurd h (by simp)
    | setMode v =>
      obtain ⟨u, u', h1, h2, h3⟩ := accessWindow_block m 0x0000 .word true v (SameBlock.setRequests s m (.checkMode v :: rest))
      simp only [serveRequest, h1] at h
      injection h with h
      exact h ▸ .bus a ha u' u h2 h3
    | checkMode v =>
      obtain ⟨u, u', h1, h2, h3⟩ := accessWindow_block m 0x0000 .word false 0 (SameBlock.setRequests s m rest)
      simp only [serveRequest, h1, bindNext_next] at h
      injection h with h
      exact h ▸ .bus a ha u' _ h2 (h3.trans (SameBlock.setModeSet _ _ _))
    | waitScanline n =>
      simp only [serveRequest] at h
      injection h with h
      exact h ▸ .bus a ha s _ .nothing (SameBlock.setRequests _ _ _)
    | spinScanline target =>
      obtain ⟨u, u', h1, h2, h3⟩ := accessWindow_block m 0x0008 .word false 0 (SameBlock.refl s)
      simp only [serveRequest, h1, bindNext_next] at h
      injection h with h
      split at h
      · exact h ▸ .bus a ha u' _ h2 (h3.trans (SameBlock.setRequests _ _ _))
      · exact h ▸ .bus a ha u' _ h2 h3

theorem SameBlock.asProd (s : State) : SameBlock s (asProd s) := SameBlock.master s .prod

theorem prodLoopStep_effect {s t : State} (h : agentStep .prodLoop s = .next t) : AgentEffect s .prodLoop t := by
  simp only [agentStep, prodLoopStep] at h
  cases hp : s.prod with
  | acquire b =>
    simp only [hp, prodAcquire, readBufFlag, bindNext_next] at h
    injection h with h
    exact h ▸ .prod _ ((SameBlock.asProd s).trans ((SameBlock.reply _ _).trans (SameBlock.prodAt _ _)))
  | readLine b =>
    simp only [hp, prodReadLine, readBufLine, bindNext_next] at h
    injection h with h
    exact h ▸ .prod _ ((SameBlock.asProd s).trans ((SameBlock.reply _ _).trans (SameBlock.prodAt _ _)))
  | readMode b line =>
    simp only [hp, prodReadMode, execRdMode, bindNext_next] at h
    injection h with h
    exact h ▸ .prod _ ((SameBlock.asProd s).trans ((SameBlock.reply _ _).trans (SameBlock.prodAt _ _)))
  | readCell job =>
    simp only [hp, prodReadCell] at h
    split at h
    · injection h with h
      exact h ▸ .prod _ (SameBlock.prodAt _ _)
    · exact absurd h (by simp)
  | readFont job cell =>
    simp only [hp, prodReadFont] at h
    split at h
    · injection h with h
      exact h ▸ .prod _ (SameBlock.prodAt _ _)
    · exact absurd h (by simp)
  | readClut job attr g k =>
    simp only [hp, prodReadClut, execRdClut, bindNext_next] at h
    injection h with h
    exact h ▸ .prod _ ((SameBlock.asProd s).trans ((SameBlock.reply _ _).trans (SameBlock.prodAt _ _)))
  | writePair job attr g k pair =>
    simp only [hp, prodWritePair, writeBufPix] at h
    split at h
    · rename_i hi
      simp only [bindNext_next] at h
      injection h with h
      refine h ▸ .prodPair job.b _ pair hi _ ?_
      exact SameBlock.trans
        ⟨s.hostPort, s.prodPort, .prod, s.prod,
          setBuf_withSide s job.b (fun x => x.setPixel _ pair) s.hostPort s.prodPort .prod s.prod⟩ (SameBlock.prodAt _ _)
    · simp only [raiseFault_eq, bindNext_next] at h
      injection h with h
      refine h ▸ .prodUnmapped _ ?_ _ (SameBlock.trans ⟨s.hostPort, s.prodPort, .prod, s.prod, rfl⟩ (SameBlock.prodAt _ _))
      simp [FaultRecord.code]
  | release b =>
    simp only [hp, prodRelease, writeBufFlag] at h
    rw [if_neg (by simp)] at h
    simp only [bindNext_next] at h
    injection h with h
    refine h ▸ .prodRelease b _ ?_
    exact SameBlock.trans
      ⟨s.hostPort, s.prodPort, .prod, s.prod,
        setBuf_withSide s b ScanBuffer.clearFlag s.hostPort s.prodPort .prod s.prod⟩ (SameBlock.prodAt _ _)

/-- What a step of an agent that answers next can do. -/
theorem agentStep_effect {a : Agent} {s t : State} (h : agentStep a s = .next t) : AgentEffect s a t := by
  cases a with
  | tg => exact tgStep_effect h
  | pop => exact popStep_effect h
  | dmaT =>
    simp only [agentStep, dmaTStep] at h
    split at h
    · rename_i hr
      injection h with h
      exact h ▸ .dmaT _ _ hr
    · injection h with h
      exact h ▸ .stall _
  | dmaP =>
    simp only [agentStep, dmaPStep] at h
    split at h
    · rename_i hr
      injection h with h
      exact h ▸ .dmaP _ _ hr
    · injection h with h
      exact h ▸ .stall _
  | seqT =>
    simp only [agentStep, seqTStep] at h
    split at h
    · rename_i hr
      injection h with h
      exact h ▸ .seqT hr
    · injection h with h
      exact h ▸ .stall _
  | seqP =>
    simp only [agentStep, seqPStep] at h
    split at h
    · rename_i hr
      injection h with h
      exact h ▸ .seqP hr
    · injection h with h
      exact h ▸ .stall _
  | hostBus => exact portStep_effect (.inl rfl) h
  | prodBus => exact portStep_effect (.inr rfl) h
  | prodLoop => exact prodLoopStep_effect h

/-- The pick changes only the schedule. -/
theorem afterPick_eq (s : State) : ∃ sched tick, afterPick s = { s with sched := sched, tick := tick } := by
  unfold afterPick
  split
  · exact ⟨_, s.tick, rfl⟩
  · exact ⟨s.sched, s.tick + 1, rfl⟩

/-- What a step that answers next can do: the picked agent's effect, at s with its schedule advanced. -/
theorem step_effect {s t : State} (h : step s = .next t) :
    ∃ sched tick, AgentEffect { s with sched := sched, tick := tick } (pickedAgent s) t := by
  obtain ⟨sched, tick, hu⟩ := afterPick_eq s
  exact ⟨sched, tick, hu ▸ agentStep_effect h⟩

end Sys2Proof.Machine
end

