-- ==== Sys2Proof/Tests/Slice0.lean ====
section
/-! SUPPORT. Tests: ill-formed terms, words written out from the spec's encodings (30_encoding.md), the vectors V1 to V72 of
95_test_vectors.md on small states, and a witness for every statement that has hypotheses. -/

namespace Sys2Proof.Tests

open Sys2Proof Sys2Proof.Machine

set_option Elab.async false

/-! ### Ill-formed terms -/

theorem test_wf_period_zero : (Instr.tw true true false 0).wellFormed = false := by decide
theorem test_wf_period_one : (Instr.tw true true false 1).wellFormed = true := by decide
theorem test_wf_pixel_index : (Instr.rdBuf0Pix 320).wellFormed = false ∧ (Instr.wrBuf0Pix 511 0).wellFormed = false ∧
    (Instr.rdBuf1Pix 400).wellFormed = false ∧ (Instr.wrBuf1Pix 320 7).wellFormed = false ∧
    (Instr.rdBuf0Pix 319).wellFormed = true := by decide
theorem test_wf_category_index : (Instr.rdTbuf 3 0).wellFormed = false ∧ (Instr.wrRoTbuf 3 3 0).wellFormed = false ∧
    (Instr.rdTbuf 2 3).wellFormed = true := by decide

/-! ### Words and keys, bit by bit -/

/-- `PPPPPPPPPPPPPPPP0000000000000TVH` (R111). -/
theorem test_decode_tw : decode (.tw 0b0000110010000000_0000000000000_1_0_1) = .ok (.tw true false true 3200) := by decide
theorem test_decode_tw_reserved : decode (.tw 0b0000000001010000_0000000000001_0_1_1) =
    .error (.twReserved 0b0000000001010000_0000000000001_0_1_1) := by decide
theorem test_decode_tw_reserved_top : decode (.tw 0b0000000001010000_1000000000000_0_1_1) =
    .error (.twReserved 0b0000000001010000_1000000000000_0_1_1) := by decide
/-- N in bits 15:0 (R113). -/
theorem test_decode_len : decode (.len 0b1010101111001101_0000000100111111) = .ok (.len 319 0xABCD) := by decide
/-- Pixel 0 in bits 11:0, pixel 1 in bits 27:16 (R117). -/
theorem test_decode_pair : decode (.pair 0b1111_000011111111_1010_000100100011) = .ok (.pair 0x123 0xA 0x0FF 0xF) := by decide

/-- Keys `offset[15:2] << 2 | W` of the control and status registers (R86, R126). -/
theorem test_decode_control (v : Word) :
    decode (.bus 0b00000000000000_0_0 0) = .ok .rdMode ∧ decode (.bus 0b00000000000000_0_1 v) = .ok (.wrMode v) ∧
    decode (.bus 0b00000000000001_0_0 0) = .ok .rdCtrl ∧ decode (.bus 0b00000000000001_0_1 v) = .ok (.wrCtrl v) ∧
    decode (.bus 0b00000000000010_0_0 0) = .ok .rdScanline ∧ decode (.bus 0b00000000000011_0_0 0) = .ok .rdTimingLine ∧
    decode (.bus 0b00000000000100_0_0 0) = .ok .rdVisLines ∧ decode (.bus 0b00000000000101_0_0 0) = .ok .rdTextDims ∧
    decode (.bus 0b00000000000110_0_0 0) = .ok .rdFbAddr ∧ decode (.bus 0b00000000000111_0_0 0) = .ok .rdClash ∧
    decode (.bus 0b00000000001000_0_0 0) = .ok .rdNeedsMemory :=
  ⟨rfl, rfl, rfl, rfl, rfl, rfl, rfl, rfl, rfl, rfl, rfl⟩

/-- The buffer registers and pixel windows: index in key[10:2] (R86, R126). -/
theorem test_decode_buffers (v : Word) :
    decode (.bus 0b0000000001_000000 0) = .ok .rdBuf0Flag ∧ decode (.bus 0b0000000001_000001 v) = .ok (.wrBuf0Flag v) ∧
    decode (.bus 0b0000000001_000100 0) = .ok .rdBuf0Line ∧ decode (.bus 0b0000000001_001000 0) = .ok .rdBuf0Len ∧
    decode (.bus 0b0000000001_010000 0) = .ok .rdBuf1Flag ∧ decode (.bus 0b0000000001_010001 v) = .ok (.wrBuf1Flag v) ∧
    decode (.bus 0b0000000001_010100 0) = .ok .rdBuf1Line ∧ decode (.bus 0b0000000001_011000 0) = .ok .rdBuf1Len ∧
    decode (.bus 0b00010_100111111_00 0) = .ok (.rdBuf0Pix 319) ∧ decode (.bus 0b00010_000000001_01 v) = .ok (.wrBuf0Pix 1 v) ∧
    decode (.bus 0b00100_100000000_00 0) = .ok (.rdBuf1Pix 256) ∧ decode (.bus 0b00100_000000000_01 v) = .ok (.wrBuf1Pix 0 v) :=
  ⟨rfl, rfl, rfl, rfl, rfl, rfl, rfl, rfl, rfl, rfl, rfl, rfl⟩

/-- The palette (key[9:2]), CLUT (key[10:2]) and TBUF (key[5:4], key[3:2]) windows (R86, R126). -/
theorem test_decode_tables :
    decode (.bus 0b001100_10000001_00 0) = .ok (.rdPalette 129) ∧ decode (.bus 0b01000_100000011_00 0) = .ok (.rdClut 259) ∧
    decode (.bus 0b0101000000_10_01_00 0) = .ok (.rdTbuf 2 1) := by decide

/-- Writes to read-only registers (R261). -/
theorem test_decode_read_only (v : Word) :
    decode (.bus 0x0009 v) = .ok (.wrRoScanline v) ∧ decode (.bus 0x000D v) = .ok (.wrRoTimingLine v) ∧
    decode (.bus 0x0011 v) = .ok (.wrRoVisLines v) ∧ decode (.bus 0x0015 v) = .ok (.wrRoTextDims v) ∧
    decode (.bus 0x0019 v) = .ok (.wrRoFbAddr v) ∧ decode (.bus 0x001D v) = .ok (.wrRoClash v) ∧
    decode (.bus 0x0021 v) = .ok (.wrRoNeedsMemory v) ∧ decode (.bus 0x0045 v) = .ok (.wrRoBuf0Line v) ∧
    decode (.bus 0x0049 v) = .ok (.wrRoBuf0Len v) ∧ decode (.bus 0x0055 v) = .ok (.wrRoBuf1Line v) ∧
    decode (.bus 0x0059 v) = .ok (.wrRoBuf1Len v) ∧ decode (.bus 0b001100_00000010_01 v) = .ok (.wrRoPalette 2 v) ∧
    decode (.bus 0b01000_111111111_01 v) = .ok (.wrRoClut 511 v) ∧ decode (.bus 0b0101000000_01_11_01 v) = .ok (.wrRoTbuf 1 3 v) :=
  ⟨rfl, rfl, rfl, rfl, rfl, rfl, rfl, rfl, rfl, rfl, rfl, rfl, rfl, rfl⟩

/-- Keys of no row: a hole, a pixel index past 319, TBUF category 3, bit 1 set, a write to no register (R86, R87, V58, V61). -/
theorem test_decode_unmapped :
    decode (.bus 0x0024 0) = .error (.unmapped 0x0024) ∧ decode (.bus 0x1500 0) = .error (.unmapped 0x1500) ∧
    decode (.bus 0x2501 0) = .error (.unmapped 0x2501) ∧ decode (.bus 0x5030 0) = .error (.unmapped 0x5030) ∧
    decode (.bus 0x5031 0) = .error (.unmapped 0x5031) ∧ decode (.bus 0x0002 0) = .error (.unmapped 0x0002) ∧
    decode (.bus 0x3400 0) = .error (.unmapped 0x3400) ∧ decode (.bus 0xFFFC 0) = .error (.unmapped 0xFFFC) := by decide

/-- The opcode table's words, and where its length and fixed bits do not tell the unit (assumption 22). -/
theorem test_table_words :
    decodeTableWord 32 0x00500003 = some (.tw true true false 80) ∧ decodeTableWord 32 0x0000013F = some (.len 319 0) ∧
    decodeTableWord 32 0x0FFF0FFF = some (.pair 0xFFF 0 0xFFF 0) ∧ decodeTableWord 16 0x0000 = some .rdMode ∧
    decodeTableWord 16 0x3001 = some (.wrRoPalette 0 0) ∧ decodeTableWord 16 0x2500 = none := by decide

/-! ### The fixture of 95_test_vectors.md: R7's defaults, CORR 0, four palette colours, one glyph row -/

/-- PALETTE_INIT of the fixture; the entries it does not give are 0 here. -/
def paletteEntry (i : Nat) : Colour := if i = 1 then 0xA00 else if i = 7 then 0xAAA else if i = 15 then 0xFFF else 0

/-- FONT16 of the fixture; the bytes it does not give are 0 here. -/
def font16Byte (i : Nat) : Byte := if i = 0x48 * 16 + 5 then 0xC6 else 0

/-- The parameters of the fixture. -/
def fixture : Params :=
  { Config.params with
    corr := { s0 := ⟨0, 0, 0, 0⟩, s1 := ⟨0, 0, 0, 0⟩ }
    paletteInit := ⟨⟨(List.range 256).map paletteEntry⟩, by simp⟩
    font16 := ⟨⟨(List.range 4096).map font16Byte⟩, by simp⟩
    gridBase := 0x20000000
    vidBase := 0x40000000
    font8Base := 0x10000000
    font16Base := 0x10001000 }

/-- The machine of the fixture right after reset. -/
def st : State := State.resetWith fixture

/-- The machine of the fixture right after its start (program P1 with MODE 0). -/
def running : State := startBlock st

/-- A value of the next state, none when there is none. -/
def after {α : Type} (r : Result) (f : State → α) : Option α :=
  match r with
  | .next s => some (f s)
  | .fault _ => none
  | .refused _ => none

/-- What HOST's last read returned. -/
def read (i : Instr) (s : State) : Option (Option Word) := after (exec i s) fun t => t.hostPort.readData

/-- The faults recorded after an instruction. -/
def faultsOf (i : Instr) (s : State) : Option (List FaultRecord) := after (exec i s) fun t => t.faults

theorem test_fixture_ok : fixture.ok = true := by decide +kernel

/-- Configurations that break no rule are accepted: MAX_ROWS 256 (R125 bounds ROWS), MAX_ROWS 30 with the modes of 16-line fonts only,
BP_END 65536 (R38 needs T <= 65535); BP_END 65537 and a grid bound below the mode's rows are not. -/
theorem test_accepted_configurations :
    ({ fixture with maxRows := 256 } : Params).ok = true ∧ ({ fixture with maxRows := 30 } : Params).ok = true ∧
    ({ fixture with vBp := ⟨65536 - 492, 35⟩ } : Params).ok = true ∧ ({ fixture with vBp := ⟨65536 - 491, 35⟩ } : Params).ok = false ∧
    ({ fixture with maxRows := 29 } : Params).ok = false := by decide +kernel

/-- R360 with the defaults and a POP_LAT of 7: 3207 cycles of 4000, so 792 cycles of stall are no overrun and 793 are one. -/
theorem test_trigger_overrun : ({ fixture with popLat := 7 } : Params).noTriggerOverrun .s0 0 = true ∧
    ({ fixture with popLat := 7 } : Params).noTriggerOverrun .s0 792 = true ∧
    ({ fixture with popLat := 7 } : Params).noTriggerOverrun .s0 793 = false := by decide +kernel

/-! ### Timing words and their build (V1 to V12) -/

theorem test_tw_encoding : twWord true true false 80 = 0x00500003 ∧ twWord false true false 480 = 0x01E00002 ∧
    twWord true true true 3200 = 0x0C800007 := by decide

/-- V4 and R163's table. -/
theorem test_build_mode0 : fixture.build 0 =
    { visible := ⟨0x00500003, 0x01E00002, 0x00F00003, 0x0C800007⟩
      porch := ⟨0x00500003, 0x01E00002, 0x00F00003, 0x0C800003⟩
      sync := ⟨0x00500001, 0x01E00000, 0x00F00001, 0x0C800001⟩ } := by decide +kernel

/-- V5. -/
theorem test_build_mode1 : fixture.build 1 = fixture.build 0 := by decide +kernel

/-- V6. -/
theorem test_build_corr : ({ fixture with corr := { s0 := ⟨0, 0, 0, -3⟩, s1 := ⟨0, 0, 0, 0⟩ } } : Params).build 0 =
    { visible := ⟨0x00500003, 0x01E00002, 0x00F00003, 0x0C7D0007⟩
      porch := ⟨0x00500003, 0x01E00002, 0x00F00003, 0x0C7D0003⟩
      sync := ⟨0x00500001, 0x01E00000, 0x00F00001, 0x0C7D0001⟩ } := by decide +kernel

/-- V7. -/
theorem test_build_polarity : ({ fixture with vsActive := { s0 := false, s1 := true } } : Params).build 1 =
    { visible := ⟨0x00500001, 0x01E00000, 0x00F00001, 0x0C800005⟩
      porch := ⟨0x00500001, 0x01E00000, 0x00F00001, 0x0C800001⟩
      sync := ⟨0x00500003, 0x01E00002, 0x00F00003, 0x0C800003⟩ } := by decide +kernel

/-- V8: the pins, TRIG, OUT. -/
theorem test_tw : after (exec (.tw true true true 3200) { running with tfifo := [0x0C800007], hs := false, vs := false })
    (fun t => (t.hs, t.vs, t.trig, t.out)) = some (true, true, true, [.syncPins true true 3200]) := by decide +kernel

/-- V9: TRIG stays 1, also under a word whose TRIG is 0. -/
theorem test_tw_trig_stays : after (exec (.tw true false false 80) { running with tfifo := [0x00500001], trig := true })
    (fun t => (t.vs, t.trig)) = some (false, true) := by decide +kernel

/-- V10. -/
theorem test_step_tw_period_zero : after (step { running with tfifo := [0x00000003], hs := false, sched := [.tg] })
    (fun t => (t.faults, t.hs, t.tfifo)) = some ([.twBad 0x00000003], false, [0x00000003]) := by decide +kernel

/-- V11. -/
theorem test_step_tw_reserved : after (step { running with tfifo := [0x0050000B], sched := [.tg] })
    (fun t => (t.faults, t.tgCur)) = some ([.twBad 0x0050000B], none) := by decide +kernel

/-- V12. -/
theorem test_tg_empty : agentEnabled .tg running = false := by decide +kernel

/-! ### SEQ_T (V13 to V25) -/

/-- T and DMA_T after SEQ_T. -/
def seqTFrom (mode : Word) (t : Half) : Option (Half × DmaT) :=
  after (step { running with mode := mode, t := t, tDone := true, dmaT := .idle, sched := [.seqT] }) (fun u => (u.t, u.dmaT))

/-- V14, V15, V16, V18, V19. -/
theorem test_seqT_mode0 :
    seqTFrom 0 478 = some (479, .active .visible .fp) ∧ seqTFrom 0 479 = some (480, .active .porch .fp) ∧
    seqTFrom 0 489 = some (490, .active .sync .fp) ∧ seqTFrom 0 491 = some (492, .active .porch .fp) ∧
    seqTFrom 0 524 = some (0, .active .visible .fp) := by decide +kernel

/-- V20 to V24. -/
theorem test_seqT_mode1 :
    seqTFrom 1 399 = some (400, .active .porch .fp) ∧ seqTFrom 1 411 = some (412, .active .sync .fp) ∧
    seqTFrom 1 413 = some (414, .active .porch .fp) ∧ seqTFrom 1 448 = some (0, .active .visible .fp) ∧
    seqTFrom 1 500 = some (0, .active .visible .fp) := by decide +kernel

/-! ### SEQ_P (V26 to V29c) -/

/-- The state before SEQ_P: the flag of the buffer that plays next is `nextFlag`. -/
def beforeSeqP (mode : Word) (p : Half) (pbuf : BufId) (nextFlag : Bool) (clash : Word) : State :=
  let s : State := { running with mode := mode, p := p, pbuf := pbuf, clash := clash, pDone := true, dmaP := .idle, sched := [.seqP] }
  let nb := bufOfLine (s.cfg.nextPlayoutLine mode p.toNat)
  s.setBuf nb { s.buf nb with flag := nextFlag }

/-- P, CLASH and DMA_P after SEQ_P. -/
def counts (s : State) : Option (Half × Word × DmaP) := after (step s) (fun u => (u.p, u.clash, u.dmaP))

/-- PBUF and the finished buffer's tag and flag after SEQ_P. -/
def handed (s : State) : Option (BufId × Half × Bool) :=
  after (step s) (fun u => (u.pbuf, (u.buf s.pbuf).line, (u.buf s.pbuf).flag))

/-- V26 to V28. -/
theorem test_seqP :
    counts (beforeSeqP 0 0 .buf0 false 0) = some (1, 0, .active .buf1 0) ∧
    handed (beforeSeqP 0 0 .buf0 false 0) = some (.buf1, 2, true) ∧
    handed (beforeSeqP 0 478 .buf0 false 0) = some (.buf1, 0, true) ∧
    counts (beforeSeqP 0 479 .buf1 false 0) = some (0, 0, .active .buf0 0) ∧
    handed (beforeSeqP 0 479 .buf1 false 0) = some (.buf0, 1, true) := by decide +kernel

/-- V29, V29a (a clash, and the wrap of CLASH), V29c (a mode change to fewer lines). -/
theorem test_seqP_clash :
    counts (beforeSeqP 0 5 .buf1 true 7) = some (6, 8, .active .buf0 0) ∧
    handed (beforeSeqP 0 5 .buf1 true 7) = some (.buf0, 7, true) ∧
    counts (beforeSeqP 0 5 .buf1 true 0xFFFFFFFF) = some (6, 0, .active .buf0 0) ∧
    counts (beforeSeqP 1 451 .buf1 false 0) = some (0, 0, .active .buf0 0) ∧
    handed (beforeSeqP 1 451 .buf1 false 0) = some (.buf0, 1, true) := by decide +kernel

/-! ### CLUT (V30 to V36) -/

theorem test_clut : ([60, 61, 62, 63, 92, 93, 95] : List (BitVec 9)).map (clutAt st.clut) =
    [0x00000000, 0x0FFF0000, 0x00000FFF, 0x0FFF0FFF, 0x0A000A00, 0x0AAA0A00, 0x0AAA0AAA] := by decide +kernel

/-! ### The pixel pipeline (V38 to V39a) -/

/-- V38. -/
theorem test_pop_wait : after (step { running with trig := true, sched := [.pop] }) (fun t => (t.trig, t.popPhase)) =
    some (false, .len) := by decide +kernel

/-- V38b, V38c. -/
theorem test_len :
    after (exec (.len 319 0) { running with popPhase := .len, pfifo := [0x0000013F] }) (fun t => (t.popPhase, t.pfifo)) =
      some (.pix 320, []) ∧
    after (step { running with popPhase := .len, pfifo := [0xABCD0000, 7], sched := [.pop] }) (fun t => (t.popPhase, t.pfifo)) =
      some (.pix 1, [7]) := by decide +kernel

/-- V39: both pixels, then Blank. -/
theorem test_pair : after (step { running with popPhase := .pix 1, pfifo := [0xF0FFF000], sched := [.pop] })
    (fun t => (t.rgb, t.popPhase, t.out)) = some (0x0FF, .blank, [.rgbPins 0x000 5, .rgbPins 0x0FF 5]) := by decide +kernel

/-- V39: the blank. -/
theorem test_blank : after (step { running with popPhase := .blank, rgb := 0x0FF, sched := [.pop] }) (fun t => (t.rgb, t.popPhase)) =
    some (0, .wait) := by decide +kernel

/-- V39a. -/
theorem test_pair_empty : after (exec (.pair 1 0 2 0) { running with popPhase := .pix 5, rgb := 0x123 }) (fun t => (t.rgb, t.popPhase)) =
    some (0x123, .pix 5) := by decide +kernel

/-! ### Rendering (V40 to V48) -/

theorem test_rows : (textRow 0 37, fontRow 0 37) = (2, 5) ∧ (textRow 2 37, fontRow 2 37) = (4, 5) ∧
    (textRow 0 479, fontRow 0 479) = (29, 15) ∧ (textRow 2 479, fontRow 2 479) = (59, 7) ∧
    (textRow 1 399, fontRow 1 399) = (24, 15) := by decide

/-- V45. -/
theorem test_no_pixels : render fixture st.clut 1 (fun _ => 0) font16Byte 450 = none ∧
    after (prodReadMode .buf0 450 { st with mode := 1 }) (fun t => t.prod) = some (.release .buf0) := by decide +kernel

/-- V46 and V47: glyph 0x48, attribute 0x0F, line 5. -/
theorem test_render :
    (render fixture st.clut 0 (fun _ => 0x0F48) font16Byte 5).map (fun l => l.take 4) = some [0x0FFF0FFF, 0x00000000, 0x0FFF0000, 0x00000FFF] ∧
    (render fixture st.clut 4 (fun _ => 0x0F48) font16Byte 5).map (fun l => l.take 8) =
      some [0x0FFF0FFF, 0x0FFF0FFF, 0, 0, 0, 0x0FFF0FFF, 0x0FFF0FFF, 0] := by decide +kernel

/-- V48. -/
theorem test_render_blank : render fixture st.clut 0 (fun _ => 0x0F20) font16Byte 0 = some (List.replicate 320 0) := by decide +kernel

/-- V46 by PROD's loop: the first pair written, from the cell's bytes in memory. -/
theorem test_prod_first_pair : after (prodRun 4 { st with prod := .readMode .buf0 5, mem := [(0x20000000, 0x48), (0x20000001, 0x0F)] })
    (fun t => t.prod) = some (.writePair ⟨.buf0, 5, 0, 0⟩ 0x0F 0xC6 0 0x0FFF0FFF) := by decide +kernel

/-! ### Bus operations (V50 to V67) -/

/-- V50, and the same in another mode. -/
theorem test_rdMode : read .rdMode st = some (some 0) ∧ read .rdMode { st with mode := 5 } = some (some 5) := by decide +kernel

/-- V51, V52, V53. -/
theorem test_wrMode : after (exec (.wrMode 1) { st with tbuf := ⟨⟨0, 0, 0, 0⟩, ⟨0, 0, 0, 0⟩, ⟨0, 0, 0, 0⟩⟩ })
      (fun t => (t.mode, decide (t.tbuf = fixture.build 1))) = some (1, true) ∧
    after (exec (.wrMode 2) st) (fun t => t.mode) = some 0 ∧ after (exec (.wrMode 8) st) (fun t => (t.mode, t.faults)) = some (0, []) := by
  decide +kernel

theorem test_rdCtrl : read .rdCtrl st = some (some 0) ∧ read .rdCtrl running = some (some 1) := by decide +kernel

/-- The start (P1, step 5). -/
theorem test_wrCtrl : after (exec (.wrCtrl 1) { st with t := 480, p := 3 }) (fun t => (t.en, t.dmaT, t.dmaP, t.pbuf)) =
    some (true, .active .porch .fp, .active .buf1 0, .buf1) := by decide +kernel

/-- V54, V55. -/
theorem test_wrCtrl_reserved : after (exec (.wrCtrl 3) st) (fun t => (t.en, t.faults)) = some (false, [.ctrlReserved 3]) ∧
    after (exec (.wrCtrl 0) running) (fun t => t.en) = some true := by decide +kernel

theorem test_rdScanline : read .rdScanline { st with p := 0x1DF, t := 7 } = some (some 0x1DF) := by decide +kernel
theorem test_rdTimingLine : read .rdTimingLine { st with t := 524, p := 7 } = some (some 524) := by decide +kernel
/-- S1. -/
theorem test_rdVisLines : read .rdVisLines st = some (some 480) ∧ read .rdVisLines { st with mode := 1 } = some (some 400) := by decide +kernel
/-- V65, V51. -/
theorem test_rdTextDims : read .rdTextDims st = some (some 0x1E50) ∧ read .rdTextDims { st with mode := 1 } = some (some 0x1950) := by
  decide +kernel
theorem test_rdFbAddr : read .rdFbAddr st = some (some 0x20000000) := by decide +kernel
theorem test_rdClash : read .rdClash { st with clash := 0xFFFFFFFE } = some (some 0xFFFFFFFE) := by decide +kernel
/-- V64. -/
theorem test_rdNeedsMemory : read .rdNeedsMemory { st with hostPort := { Port.idle with readData := some 7 } } = some (some 0) := by
  decide +kernel
theorem test_rdBufFlag : read .rdBuf0Flag { st with buf0 := { st.buf0 with flag := true } } = some (some 1) ∧
    read .rdBuf1Flag { st with buf0 := { st.buf0 with flag := true } } = some (some 0) := by decide +kernel
/-- V57, V56. -/
theorem test_wrBuf0Flag :
    after (exec (.wrBuf0Flag 0) { st with buf0 := { st.buf0 with flag := true }, buf1 := { st.buf1 with flag := true } })
      (fun t => (t.buf0.flag, t.buf1.flag)) = some (false, true) ∧
    faultsOf (.wrBuf0Flag 1) st = some [.flagSet .host .buf0 1] := by decide +kernel
theorem test_wrBuf1Flag :
    after (exec (.wrBuf1Flag 0) { st with buf0 := { st.buf0 with flag := true }, buf1 := { st.buf1 with flag := true } })
      (fun t => (t.buf0.flag, t.buf1.flag)) = some (true, false) ∧
    faultsOf (.wrBuf1Flag 0x80000000) { st with master := .prod } = some [.flagSet .prod .buf1 0x80000000] := by decide +kernel
theorem test_rdBufLine : read .rdBuf0Line st = some (some 0) ∧ read .rdBuf1Line st = some (some 1) := by decide +kernel
/-- V66. -/
theorem test_rdBufLen : read .rdBuf0Len st = some (some 0x13F) ∧ read .rdBuf1Len st = some (some 0x13F) := by decide +kernel
theorem test_bufPix0 : after (exec (.wrBuf0Pix 319 0xF1234567) st) (fun t => read (.rdBuf0Pix 319) t) = some (some (some 0xF1234567)) ∧
    faultsOf (.rdBuf0Pix 320) st = some [.unmapped .host 0x1500 false] := by decide +kernel
theorem test_bufPix1 : after (exec (.wrBuf1Pix 0 5) { st with buf1 := { st.buf1 with flag := false } }) (fun t => t.buf1.pixel 0) =
      some (some 5) ∧ read (.rdBuf1Pix 2) (st.setBuf .buf1 (st.buf1.setPixel 2 9)) = some (some 9) ∧
    faultsOf (.wrBuf1Pix 511 5) st = some [.unmapped .host 0x27FC true] := by decide +kernel
theorem test_rdPalette : read (.rdPalette 7) st = some (some 0x00000AAA) := by decide +kernel
/-- V31, V35. -/
theorem test_rdClut : read (.rdClut 61) st = some (some 0x0FFF0000) ∧ read (.rdClut 93) st = some (some 0x0AAA0A00) := by decide +kernel
/-- V63, P4. -/
theorem test_rdTbuf : read (.rdTbuf 2 1) st = some (some 0x01E00000) ∧ read (.rdTbuf 0 3) st = some (some 0x0C800007) ∧
    faultsOf (.rdTbuf 3 1) st = some [.unmapped .host 0x5034 false] := by decide +kernel
/-- V60, V62, and the other read-only registers. -/
theorem test_read_only_writes :
    [Instr.wrRoScanline 5, .wrRoTimingLine 5, .wrRoVisLines 5, .wrRoTextDims 5, .wrRoFbAddr 5, .wrRoClash 5, .wrRoNeedsMemory 5,
      .wrRoBuf0Line 5, .wrRoBuf0Len 5, .wrRoBuf1Line 5, .wrRoBuf1Len 5, .wrRoPalette 0 0, .wrRoClut 511 0, .wrRoTbuf 2 3 0].map
      (fun i => faultsOf i st) =
    [0x0008, 0x000C, 0x0010, 0x0014, 0x0018, 0x001C, 0x0020, 0x0044, 0x0048, 0x0054, 0x0058, 0x3000, 0x47FC, 0x502C].map
      (fun o => some [.roWrite .host o]) := by decide +kernel

/-- V58, V59, V67, and the priority of BAD_ACCESS (R323): an access through HOST's port. -/
theorem test_bus_checks :
    after (accessWindow .host 0x0024 .word false 0 st) (fun t => t.faults) = some [.unmapped .host 0x0024 false] ∧
    after (accessWindow .host 0x0002 .word false 0 st) (fun t => t.faults) = some [.badAccess .host 0x0002 4] ∧
    after (accessWindow .prod 0x0000 .byte false 0 st) (fun t => t.faults) = some [.badAccess .prod 0x0000 1] ∧
    after (accessWindow .host 0x10000 .word true 0 st) (fun t => t.faults) = some [.unmapped .host 0x10000 true] := by decide +kernel

/-! ### DMA channels (V68 to V72) -/

theorem test_dmaT :
    after (dmaTStep { running with dmaT := .active .sync .fp, tfifo := [1, 2, 3, 4, 5, 6, 7] }) (fun t => (t.tfifo, t.dmaT)) =
      some ([1, 2, 3, 4, 5, 6, 7, 0x00500001], .active .sync .sync) ∧
    after (dmaTStep { running with dmaT := .active .sync .sync, tfifo := [1, 2, 3, 4, 5, 6, 7, 8] }) (fun t => t.tfifo) =
      some [1, 2, 3, 4, 5, 6, 7, 8] ∧
    after (dmaTStep { running with dmaT := .active .visible .vis }) (fun t => (t.tfifo, t.dmaT, t.tDone)) =
      some ([0x0C800007], .idle, true) := by decide +kernel

theorem test_dmaP :
    after (dmaPStep running) (fun t => (t.pfifo, t.dmaP, t.pDone)) = some ([0x13F], .active .buf0 1, false) ∧
    after (dmaPStep { running.setBuf .buf1 (running.buf1.setPixel 319 9) with dmaP := .active .buf1 320 })
      (fun t => (t.pfifo, t.dmaP, t.pDone)) = some ([9], .idle, true) := by decide +kernel

/-! ### Memory, and the fetch -/

/-- The font table is bus memory: byte 0x485 of FONT16 is read over the bus, written over, and read by PROD (R80, R84, R121); writing the
byte the table holds at reset lists nothing. -/
theorem test_font_memory :
    after (accessAddress .host 0x10001485 .byte false 0 st) (fun t => t.hostPort.readData) = some (some 0xC6) ∧
    after (accessAddress .host 0x10001485 .byte true 0x1FF st)
      (fun t => (t.mem, after (prodReadFont ⟨.buf0, 5, 0, 0⟩ 0x0F48 t) (fun u => u.prod))) =
      some ([(0x10001485, 0xFF)], some (.readClut ⟨.buf0, 5, 0, 0⟩ 0x0F 0xFF 0)) ∧
    after (accessAddress .host 0x10001485 .byte true 0xC6 { st with mem := [(0x10001485, 0xFF)] }) (fun t => t.mem) = some [] := by
  decide +kernel

theorem test_memory_little_endian : after (accessAddress .host 0x1000 .word true 0x11223344 st)
    (fun t => (t.mem, t.readMem 0x1001 .half)) =
    some ([(0x1000, 0x44), (0x1001, 0x33), (0x1002, 0x22), (0x1003, 0x11)], 0x2233) := by decide +kernel

/-- From reset, with the free values standing (a WR CTRL of 0), and in the fixture (RD BUF1_LEN, a TW, a LEN and a PAIR word): each is run
by the very next step. -/
theorem test_withFetchWord :
    after (step (State.reset.withFetchWord 16 0x0005)) (fun t => t.en) = some false ∧
    after (step (st.withFetchWord 16 0x0058)) (fun t => t.hostPort.readData) = some (some 0x13F) ∧
    after (step (st.withFetchWord 32 0x0C800007)) (fun t => (t.hs, t.vs, t.trig)) = some (true, true, true) ∧
    after (step (st.withFetchWord 32 0x0000013F)) (fun t => t.popPhase) = some (.pix 320) ∧
    after (step (st.withFetchWord 32 0x0FFF0123)) (fun t => t.rgb) = some 0xFFF := by decide +kernel

/-! ### Witnesses: for every statement that has hypotheses, states and operands that meet them -/

theorem next_of_after {r : Result} (h : after r (fun _ => ()) = some ()) : ∃ t, r = .next t := by
  cases r with
  | next t => exact ⟨t, rfl⟩
  | fault e => simp [after] at h
  | refused e => simp [after] at h

theorem test_witness_StoppedBlockTakesNoStep : st.en = false ∧ ∀ a ∈ [Agent.tg, .pop, .dmaT, .dmaP, .seqT, .seqP],
    a ∉ [Agent.hostBus, .prodBus, .prodLoop] := by decide +kernel

theorem test_witness_DecodeOfEncodeIsTheInstruction :
    (Instr.tw false true true 1).wellFormed = true ∧ (Instr.tw true true true 65535).wellFormed = true ∧
    (Instr.rdBuf1Pix 319).wellFormed = true ∧ (Instr.wrRoTbuf 2 3 5).wellFormed = true := by decide

theorem test_witness_EncodeOfDecodeIsTheWord (v : Word) :
    decode (.tw 0x00500003) = .ok (.tw true true false 80) ∧ decode (.len 0xABCD0000) = .ok (.len 0 0xABCD) ∧
    decode (.pair 0xF0FFF000) = .ok (.pair 0 0xF 0x0FF 0xF) ∧ decode (.bus 0x0014 v) = .ok .rdTextDims ∧
    decode (.bus 0x0041 v) = .ok (.wrBuf0Flag v) := ⟨rfl, rfl, rfl, rfl, rfl⟩

theorem test_witness_NoTwoBusRowsOverlap : ∃ r ∈ busTable, r.hits 0x5031 = false ∧ r.hits 0x0001 = true :=
  ⟨⟨0xFFFF, 0x0001, .wrMode⟩, by decide, by decide, by decide⟩

/-- TG with a word it may take. -/
def tgHas (w : Word) : State := { running with tfifo := [w], sched := [.tg] }

theorem test_witness_StepRunsTheTimingWord : (tgHas 0x00500003).sched = .tg :: [] ∧ tgReady (tgHas 0x00500003) = true ∧
    (tgHas 0x00500003).tfifo = 0x00500003 :: [] ∧ decode (.tw 0x00500003) = .ok (.tw true true false 80) := by decide +kernel

/-- POP in a phase with a word it may take. -/
def popHas (ph : PopPhase) (w : Word) : State := { running with popPhase := ph, pfifo := [w], sched := [.pop] }

theorem test_witness_StepRunsThePixelWord :
    ((popHas .len 319).sched = .pop :: [] ∧ (popHas .len 319).en = true ∧ (popHas .len 319).pfifo = 319 :: [] ∧
      (popHas .len 319).popPhase = .len ∧ decode (.len 319) = .ok (.len 319 0)) ∧
    ((popHas (.pix 1) 5).sched = .pop :: [] ∧ (popHas (.pix 1) 5).en = true ∧ (popHas (.pix 1) 5).popPhase = .pix 1 ∧
      decode (.pair 5) = .ok (.pair 5 0 0 0)) := by decide +kernel

/-- A bus master's port with one request, picked next. -/
def asks (m : Master) (r : Request) : State := { st with sched := [portAgent m] }.setRequests m [r]

theorem test_witness_StepRunsTheBusOperation : st.cfg.ok = true ∧
    ((asks .host (.register 0x502C .word false 0)).port .host).requests = [.register 0x502C .word false 0] ∧
    ((asks .prod (.address (st.cfg.vidBase + 0x0040) .word true 0)).port .prod).requests =
      [.address (st.cfg.vidBase + 0x0040) .word true 0] ∧
    decode (.bus (busKey 0x502C false) 0) = .ok (.rdTbuf 2 3) ∧ decode (.bus (busKey 0x0040 true) 0) = .ok (.wrBuf0Flag 0) := by
  decide +kernel

/-- Clauses 1 to 5, the periods 1 and 65535, and the three ways not to be ready. -/
theorem test_witness_TimingWordStartsItsPeriod :
    (0xFFFF0007 : Word).extractLsb' 3 13 = 0 ∧
    ((tgHas 0x00010000).en = true ∧ (tgHas 0x00010000).tgCur = none ∧ (tgHas 0x00010000).tfifo ≠ [] ∧
      tgStopped (tgHas 0x00010000) = false ∧ (1 : Half) ≠ 0 ∧ (65535 : Half) ≠ 0) ∧
    twLegal 0x00000003 = false ∧ twLegal 0x0050000B = false ∧ st.en = false ∧
    { running with tgCur := some 0x00500003 }.tgCur ≠ none ∧ running.tfifo = [] := by decide +kernel

theorem test_witness_TwBadStopsTheGenerator : ∃ t, FaultRecord.twBad 3 ∈ { tgHas 3 with faults := [.twBad 3] }.faults ∧
    step { tgHas 3 with faults := [.twBad 3] } = .next t :=
  let ⟨t, h⟩ := next_of_after (r := step { tgHas 3 with faults := [.twBad 3] }) (by decide +kernel)
  ⟨t, by simp, h⟩

theorem test_witness_PeriodEndFreesTheGenerator : running.en = true ∧ tgStopped running = false ∧
    { running with tgCur := some 0x00500003 }.tgCur = some 0x00500003 := by decide +kernel

theorem test_witness_EmptyFifosStallTheirUnits : running.tgCur = none ∧ running.tfifo = [] ∧ running.pfifo = [] ∧
    { running with popPhase := .len }.popPhase = .len ∧ { running with popPhase := .pix 7 }.popPhase = .pix 7 := by decide +kernel

theorem test_witness_PopWaitsForTheTrigger : running.en = true ∧ running.popPhase = .wait ∧ running.trig = false ∧
    { running with trig := true }.trig = true := by decide +kernel

theorem test_witness_LenStartsALine : (popHas .len 319).en = true ∧ (popHas .len 319).popPhase = .len ∧
    (popHas .len 319).pfifo ≠ [] ∧ st.en = false ∧ running.popPhase ≠ .len ∧ running.pfifo = [] := by decide +kernel

theorem test_witness_PairEmitsTwoPixels : ∀ c ∈ [1, 2, 320], (popHas (.pix c) 5).en = true ∧
    (popHas (.pix c) 5).popPhase = .pix c ∧ (popHas (.pix c) 5).pfifo ≠ [] := by decide +kernel

theorem test_witness_BlankEndsALine : (popHas .blank 5).en = true ∧ (popHas .blank 5).popPhase = .blank := by decide +kernel

/-- Every word of a line, with room and without. -/
theorem test_witness_DmaTMovesATimingWord : ∀ j ∈ [Slot.fp, .sync, .bp, .vis],
    { running with dmaT := .active .sync j }.en = true ∧ { running with dmaT := .active .sync j }.dmaT = .active .sync j ∧
    running.tfifo.length < running.cfg.tfifoDepth ∧
    running.cfg.tfifoDepth ≤ { running with tfifo := [1, 2, 3, 4, 5, 6, 7, 8] }.tfifo.length := by decide +kernel

/-- LEN, the first and the last pair, with room and without. -/
theorem test_witness_DmaPMovesABufferWord : ∀ j ∈ [0, 1, 319, 320],
    { running with dmaP := .active .buf1 j }.en = true ∧ { running with dmaP := .active .buf1 j }.dmaP = .active .buf1 j ∧
    j ≤ bufPairs ∧ running.pfifo.length < running.cfg.pfifoDepth ∧
    running.cfg.pfifoDepth ≤ { running with pfifo := [1, 2, 3, 4, 5, 6, 7, 8] }.pfifo.length := by decide +kernel

/-- A completed line, its last clause included. -/
theorem test_witness_SeqTAdvancesTheTimingLine :
    let s := { running with tDone := true, dmaT := .idle, t := 479 }
    s.cfg.ok = true ∧ s.cfg.Selectable s.mode ∧ s.en = true ∧ s.tDone = true ∧ s.mode = 0 ∧ s.cfg.vVis.s0 = 480 ∧ 0 < s.cfg.vFp.s0 ∧ s.t = 479 := by
  decide +kernel

theorem test_witness_SeqPHandsTheBuffersOver :
    let s := { running with pDone := true, dmaP := .idle, p := 479, pbuf := .buf1 }
    s.cfg.ok = true ∧ s.cfg.Selectable s.mode ∧ s.en = true ∧ s.pDone = true := by decide +kernel

theorem test_witness_SequencerStepsCommute :
    let s := { running with tDone := true, dmaT := .idle, pDone := true, dmaP := .idle }
    seqTEnabled s = true ∧ seqPEnabled s = true := by decide +kernel

theorem test_witness_BuffersAlternateByParity : ∃ t,
    let s := { running with pDone := true, dmaP := .idle, p := 479, pbuf := .buf1 }
    s.cfg.ok = true ∧ s.cfg.Selectable s.mode ∧ s.p.toNat < s.cfg.vis s.mode ∧ s.pbuf = bufOfLine s.p.toNat ∧ seqPEnabled s = true ∧
      agentStep .seqP s = .next t :=
  let ⟨t, h⟩ := next_of_after
    (r := agentStep .seqP { running with pDone := true, dmaP := .idle, p := 479, pbuf := .buf1 }) (by decide +kernel)
  ⟨t, by decide +kernel, by decide +kernel, by decide +kernel, by decide +kernel, by decide +kernel, h⟩

theorem test_witness_TimingLinesCycle : fixture.ok = true ∧ fixture.Selectable 0 ∧ fixture.Selectable 1 ∧ fixture.bpEnd 0 = 525 ∧
    fixture.bpEnd 1 = 449 := by decide +kernel

/-- Each clause at its boundary values: the lines where the categories meet. -/
theorem test_witness_CategoryByTimingLine :
    479 < fixture.vis 0 ∧ (fixture.vis 0 ≤ 480 ∧ 489 < fixture.fpEnd 0) ∧ (fixture.fpEnd 0 ≤ 490 ∧ 491 < fixture.syncEnd 0) ∧
    fixture.syncEnd 0 ≤ 492 := by decide +kernel

theorem test_witness_TimingBufferFields : fixture.ok = true := test_fixture_ok

/-- Two palettes that agree on their first 16 entries and differ at entry 16. -/
theorem test_witness_ClutEntriesArePaletteColours : ∃ q : Vector Colour 256,
    (∀ n, n < 16 → colourAt st.palette n = colourAt q n) ∧ colourAt st.palette 16 ≠ colourAt q 16 :=
  ⟨st.palette.set 16 5, by decide +kernel, by decide +kernel⟩

theorem test_witness_GeometryReads : st.cfg.ok = true ∧ st.cfg.Selectable st.mode ∧ st.cfg.vVis = { s0 := 480, s1 := 400 } := by decide +kernel

theorem test_witness_PixelReads : (0 : BitVec 9).toNat < 320 ∧ (319 : BitVec 9).toNat < 320 ∧ 320 ≤ (320 : BitVec 9).toNat ∧
    320 ≤ (511 : BitVec 9).toNat := by decide

theorem test_witness_ModeWriteAcceptsOrChangesNothing : (0 : Word) ∈ st.cfg.acceptedModes ∧ (1 : Word) ∈ st.cfg.acceptedModes ∧
    (2 : Word) ∉ st.cfg.acceptedModes ∧ (0xFFFFFFF8 : Word) ∉ st.cfg.acceptedModes := by decide +kernel

/-- The values 0, 1 (stopped and running), 2, 3 and the largest. -/
theorem test_witness_ControlWriteStartsTheBlock : st.en = false ∧ running.en = true ∧ 2 ≤ (2 : Word).toNat ∧ 2 ≤ (3 : Word).toNat ∧
    2 ≤ (0xFFFFFFFF : Word).toNat := by decide +kernel

theorem test_witness_FlagWriteReleasesTheBuffer : st.buf0.flag = false ∧ st.buf1.flag = false ∧ (1 : Word) ≠ 0 ∧
    (0x80000000 : Word) ≠ 0 := by decide +kernel

theorem test_witness_PixelWritesStoreOnePair : (319 : BitVec 9).toNat < 320 ∧ 320 ≤ (320 : BitVec 9).toNat ∧
    5 ≠ (319 : BitVec 9).toNat := by decide

theorem test_witness_ReadOnlyWritesFault : (0 : BitVec 2) ≠ 3 ∧ (2 : BitVec 2) ≠ 3 := by decide

/-- Each check, alone and at its boundary: width, alignment, the window's end, a hole, each operation's own faults. -/
theorem test_witness_BusChecksComeInOrder :
    Width.half ≠ .word ∧ (0x0001 : Word).toNat % 4 ≠ 0 ∧ 0x10000 ≤ (0x10000 : Word).toNat ∧ (0xFFFC : Word).toNat < 0x10000 ∧
    decode (.bus (busKey 0xFFFC false) 0) = .error (.unmapped 0xFFFC) ∧
    decode (.bus (busKey 0x0008 true) 5) = .ok (.wrRoScanline 5) ∧ isReadOnlyWrite (.wrRoScanline 5) = true ∧
    decode (.bus (busKey 0x0040 true) 1) = .ok (.wrBuf0Flag 1) ∧ decode (.bus (busKey 0x0050 true) 1) = .ok (.wrBuf1Flag 1) ∧
    decode (.bus (busKey 0x0004 true) 2) = .ok (.wrCtrl 2) := by decide

/-- A step that records a fault in a run with one already. -/
theorem test_witness_FaultsArePermanentAndEnIsSetOnly :
    after (step { tgHas 3 with faults := [.ctrlReserved 2] }) (fun t => (t.faults, t.en)) =
      some ([.ctrlReserved 2, .twBad 3], true) := by decide +kernel

/-- Steps that change T, P, CLASH, a tag, a flag and PBUF. -/
theorem test_witness_OnlyTheSequencerAdvancesTheLines :
    after (step { running with tDone := true, dmaT := .idle, sched := [.seqT] }) (fun t => t.t) = some 1 ∧
    after (step (beforeSeqP 0 5 .buf1 true 7)) (fun t => (t.p, t.clash, t.pbuf)) = some (6, 8, .buf0) ∧
    after (step (beforeSeqP 0 5 .buf1 true 7)) (fun t => (t.buf1.line, t.buf1.flag)) = some (7, true) := by decide +kernel

/-- Steps that change the pins, TRIG, RGB and MODE. -/
theorem test_witness_OnlyTheUnitsDriveThePins :
    after (step { tgHas 0x00500004 with hs := true, vs := true }) (fun t => (t.hs, t.vs, t.trig)) = some (false, false, true) ∧
    after (step { running with trig := true, sched := [.pop] }) (fun t => t.trig) = some false ∧
    after (step (popHas (.pix 1) 0x00FF0000)) (fun t => t.rgb) = some 0x0FF ∧
    after (step (asks .host (.register 0 .word true 1))) (fun t => t.mode) = some 1 := by decide +kernel

theorem test_witness_ReadsHaveNoSideEffects : isBusRead (.rdTbuf 2 3) = true ∧ (Instr.rdTbuf 2 3).wellFormed = true ∧
    isBusRead (.rdBuf0Pix 319) = true ∧ (Instr.rdBuf0Pix 319).wellFormed = true := by decide

/-- Every width at the top of the bus space and just below the window. -/
theorem test_witness_MemoryWritesAreLittleEndian :
    touchesWindow st.cfg (0xFFFFFFFC : Word).toNat Width.word.bytes = false ∧ (0xFFFFFFFC : Word).toNat + Width.word.bytes ≤ 2 ^ 32 ∧
    touchesWindow st.cfg (0xFFFFFFFF : Word).toNat Width.byte.bytes = false ∧ (0xFFFFFFFF : Word).toNat + Width.byte.bytes ≤ 2 ^ 32 ∧
    touchesWindow st.cfg (0x3FFFFFFE : Word).toNat Width.half.bytes = false := by decide +kernel

theorem test_witness_AccessPastTheBusSpaceFaults :
    touchesWindow st.cfg (0xFFFFFFFD : Word).toNat Width.word.bytes = false ∧ 2 ^ 32 < (0xFFFFFFFD : Word).toNat + Width.word.bytes := by
  decide +kernel

/-- Each condition of R8, broken alone. -/
theorem test_witness_BadConfigurationIsRefused :
    ({ fixture with vVis := ⟨480, 401⟩ } : Params).vVis.get .s1 % 2 = 1 ∧
    ((({ fixture with corr := ⟨⟨-80, 0, 0, 0⟩, ⟨0, 0, 0, 0⟩⟩ } : Params).hPixels.get .fp * fixture.cpp : Nat) : Int) + (-80) < 1 ∧
    (65535 : Int) < ((fixture.hPixels.get .vis * fixture.cpp : Nat) : Int) + 62336 ∧
    ({ fixture with tfifoDepth := 0 } : Params).tfifoDepth = 0 ∧ ({ fixture with pfifoDepth := 0 } : Params).pfifoDepth = 0 ∧
    bufPairs ≠ ({ fixture with hPixels := ⟨16, 96, 48, 638⟩ } : Params).hPixels.vis / 2 := by decide +kernel

theorem inv_sched {s : State} (h : Inv s) (l : List Agent) : Inv { s with sched := l } where
  cfg := h.cfg
  tables := ⟨h.tables.tbuf, h.tables.palette, h.tables.clut, h.tables.mode⟩
  fifos := ⟨h.fifos.tfifo, h.fifos.pfifo⟩
  completions := ⟨h.completions.stoppedT, h.completions.stoppedP, h.completions.runningT, h.completions.runningP⟩
  lines := ⟨h.lines.t, h.lines.p, h.lines.line0, h.lines.line1⟩
  words := ⟨h.words.tbuf, h.words.tfifo, h.words.tgCur, h.words.notStopped⟩
  memory := h.memory

/-! The invariant holds of the machine of the fixture right after its start. -/

theorem running_tables : TablesCurrent running := by
  constructor <;> simp [running, startBlock, st, State.resetWith, State.armT, State.armP, Params.Selectable]

theorem running_words : TimingWordsLegal running where
  tbuf := by
    rw [running_tables.tbuf]
    have h : running.cfg.build running.mode = ⟨⟨0x00500003, 0x01E00002, 0x00F00003, 0x0C800007⟩,
      ⟨0x00500003, 0x01E00002, 0x00F00003, 0x0C800003⟩, ⟨0x00500001, 0x01E00000, 0x00F00001, 0x0C800001⟩⟩ := by decide +kernel
    rw [h]
    intro k j
    cases k <;> cases j <;> decide
  tfifo := by simp [running, startBlock, st, State.resetWith, State.armT, State.armP]
  tgCur := by simp [running, startBlock, st, State.resetWith, State.armT, State.armP]
  notStopped := by simp [running, startBlock, st, State.resetWith, State.armT, State.armP, tgStopped]

theorem running_fifos : FifosBounded running := ⟨by decide +kernel, by decide +kernel⟩

theorem running_completions : CompletionsExclusive running := by
  constructor <;> simp [running, startBlock, st, State.resetWith, State.armT, State.armP]

theorem running_lines : LinesInRange running := by constructor <;> decide +kernel

theorem running_inv : Inv running :=
  ⟨test_fixture_ok, running_tables, running_fifos, running_completions, running_lines, running_words, by decide +kernel⟩

theorem running_aligned : PixelStreamAligned running := by
  constructor <;> simp [running, startBlock, st, State.resetWith, State.armT, State.armP, popPosition, dmaPosition]

theorem test_witness_EveryStepKeepsTheInvariant : ∃ t, Inv { running with sched := [.dmaT] } ∧
    step { running with sched := [.dmaT] } = .next t := by
  obtain ⟨t, h⟩ := next_of_after (r := step { running with sched := [.dmaT] }) (by decide +kernel)
  exact ⟨t, inv_sched running_inv _, h⟩

theorem test_witness_EveryStepKeepsThePixelStream : ∃ t, Inv { running with sched := [.dmaP] } ∧
    PixelStreamAligned { running with sched := [.dmaP] } ∧ step { running with sched := [.dmaP] } = .next t := by
  obtain ⟨t, h⟩ := next_of_after (r := step { running with sched := [.dmaP] }) (by decide +kernel)
  exact ⟨t, inv_sched running_inv _, ⟨running_aligned.1, running_aligned.2, running_aligned.3, running_aligned.4⟩, h⟩

theorem test_witness_TimingNeverDeadlocks : Inv running ∧ running.en = true := ⟨running_inv, by decide +kernel⟩

/-- The LEN word of a line in PFIFO, and then its first and its last pair. -/
theorem test_witness_PopTakesWholeLines :
    PixelStreamAligned { popHas .len 319 with dmaP := .active .buf0 1 } ∧
    PixelStreamAligned { popHas (.pix 320) 5 with dmaP := .active .buf0 2 } ∧
    PixelStreamAligned { popHas (.pix 1) 5 with dmaP := .idle } := by
  refine ⟨?_, ?_, ?_⟩ <;> constructor <;>
    simp [popHas, popPosition, dmaPosition, lineWordCount, bufPairs, List.getElem?_singleton]

theorem test_witness_ProducerWaitsForItsFlag : st.prod = .acquire .buf0 ∧ { st with prod := .readLine .buf1 }.prod = .readLine .buf1 ∧
    { st with prod := .release .buf1 }.prod = .release .buf1 := by decide +kernel

/-- The last rendered line and the first that is not, of mode 1 (25 rows of 16). -/
theorem test_witness_RowsPastTheLastAreNotRendered :
    (399 : Half).toNat / fontHeight 1 < fixture.rows 1 ∧ fixture.rows 1 ≤ (400 : Half).toNat / fontHeight 1 := by decide +kernel

/-- The fixture with every mode accepted. -/
def allModes : Params := { fixture with acceptedModes := [0, 1, 2, 3, 4, 5, 6, 7] }

/-- Its machine after reset, in mode m, PROD about to read MODE for line 479. -/
def rendersIn (m : Word) : State := { State.resetWith allModes with mode := m, prod := .readMode .buf0 479 }

/-- 80 columns with FONT16 and 40 columns with FONT8, the last visible line, the last column and pair of each. -/
theorem test_witness_ProducerRendersTheLine :
    allModes.ok = true ∧ (rendersIn 0).cfg = allModes ∧ (rendersIn 6).cfg = allModes ∧
    (rendersIn 0).clut = buildClut (rendersIn 0).palette ∧ (rendersIn 6).clut = buildClut (rendersIn 6).palette ∧
    (rendersIn 6).prod = .readMode .buf0 479 ∧ allModes.Selectable 0 ∧ allModes.Selectable 6 ∧
    479 / 16 < allModes.vis 0 / 16 ∧ 479 / 8 < allModes.vis 6 / 8 ∧
    (6 : Word).getLsbD 1 = true ∧ (6 : Word).getLsbD 2 = true ∧ 79 < 80 ∧ 39 < 40 :=
  ⟨by decide +kernel, rfl, rfl, rfl, rfl, rfl, by decide +kernel, by decide +kernel, by decide +kernel, by decide +kernel,
    by decide, by decide, by decide, by decide⟩

theorem test_witness_SetModeReportsItsSuccess : ((asks .host (.setMode 1)).port .host).requests = [.setMode 1] ∧
    (1 : Word) ∈ (asks .host (.setMode 1)).cfg.acceptedModes ∧ (5 : Word) ∉ (asks .host (.setMode 5)).cfg.acceptedModes := by
  decide +kernel

theorem test_witness_WaitScanlineEndsAtItsLine : ((asks .host (.waitScanline 1000)).port .host).requests = [.waitScanline 1000] ∧
    ((asks .prod (.spinScanline 479)).port .prod).requests = [.spinScanline 479] := by decide +kernel

/-- Both tables, at their first and last byte, and PROD about to read a font byte. -/
theorem test_witness_FontTablesAreBusMemory : fixture.ok = true ∧ 4095 < 256 * fontHeight 0 ∧ 2047 < 256 * fontHeight 2 ∧
    modeFont 0 = false ∧ modeFont 2 = true ∧
    { st with prod := .readFont ⟨.buf0, 5, 0, 0⟩ 0x0F48 }.prod = .readFont ⟨.buf0, 5, 0, 0⟩ 0x0F48 := by decide +kernel

/-- A step of TG while POP is at its line with a trigger held, and POP at its blank step with one. -/
theorem test_witness_TriggerIsHeldWhilePopIsBusy :
    after (step { tgHas 0x00500007 with trig := true, popPhase := .pix 7 }) (fun t => t.trig) = some true ∧
    { popHas .blank 5 with trig := true }.en = true ∧ { popHas .blank 5 with trig := true }.trig = true ∧
    { popHas .blank 5 with trig := true }.popPhase = .blank := by decide +kernel

/-- The first and the last byte of the window, a word across each edge, and the last word inside. -/
theorem test_witness_AddressedAccessesReachTheWindow : st.cfg.ok = true ∧ st.cfg.vidBase = 0x40000000 ∧
    (∀ p ∈ [((0x40000000 : Word), Width.byte), (0x4000FFFF, .byte), (0x3FFFFFFD, .word), (0x4000FFFE, .word), (0x4000FFFC, .word)],
      st.cfg.vidBase.toNat < p.1.toNat + p.2.bytes ∧ p.1.toNat < st.cfg.vidBase.toNat + 0x10000) ∧
    (0x3FFFFFFD : Word).toNat < st.cfg.vidBase.toNat ∧ (0x4000FFFC : Word).toNat % 4 = 0 := by decide +kernel

theorem test_witness_InvariantHoldsAtReset : fixture.ok = true := test_fixture_ok

end Sys2Proof.Tests
end

section
/-! PROOFS. The scope statements O7, O8, O10, O15, O40, O45, O47 and O48: the facts they need, by what each speaks of, then the
statements. -/

namespace Sys2Proof.Machine

/-! ### The step of a scheduled agent (R11) -/

/-- With an agent at the head of the schedule, the step is that agent's. -/
theorem step_of_sched {s : State} {a : Agent} {rest : List Agent} (h : s.sched = a :: rest) :
    step s = agentStep a { s with sched := rest } := by
  simp only [step, pickedAgent, afterPick, h]

theorem tgReady_iff (s : State) :
    tgReady s = true ↔ s.en = true ∧ tgStopped s = false ∧ s.tgCur = none ∧ s.tfifo ≠ [] := by
  simp [tgReady, and_assoc]

/-- TG ready for a word has no period to end, so its step takes the word (R156). -/
theorem tgStep_of_ready {s : State} (h : tgReady s = true) : tgStep s = tgTake s := by
  obtain ⟨-, -, hcur, -⟩ := (tgReady_iff s).mp h
  have hend : tgPeriodEndEnabled s = false := by simp [tgPeriodEndEnabled, hcur]
  simp [tgStep, hend, h]

/-- POP with a word to take neither ends its wait nor blanks, so its step takes the word (R181, R182). -/
theorem popStep_of_popRaw {s : State} {raw : Raw} (h : popRaw s = some raw) : popStep s = popTake s := by
  have hwait : s.popPhase ≠ .wait := by intro hp; simp [popRaw, hp] at h
  have hblank : s.popPhase ≠ .blank := by intro hp; simp [popRaw, hp] at h
  simp [popStep, popWaitEnabled, popBlankEnabled, hwait, hblank]

/-- POP runs what the word it takes decodes to. -/
theorem popStep_eq_exec {s : State} {raw : Raw} {i : Instr} (h : popRaw s = some raw) (hi : decode raw = .ok i) :
    popStep s = exec i s := by
  rw [popStep_of_popRaw h]
  simp only [popTake, h, hi]

/-! ### TG and POP take a word (R156, R181) -/

/-- The state after TW (R156). -/
def State.tookTw (s : State) (hs vs trig : Bool) (period : Half) : State :=
  { s with
    tfifo := s.tfifo.tail
    hs := hs
    vs := vs
    trig := trigAfterWord s.trig trig
    tgCur := some (twWord hs vs trig period)
    out := s.out ++ [.syncPins hs vs period.toNat] }

/-- Ready, with a PERIOD that is not 0, TW takes its word (R156). -/
theorem exec_tw_of_ready {s : State} (h : tgReady s = true) (hs vs trig : Bool) {period : Half} (hp : period ≠ 0) :
    exec (.tw hs vs trig period) s = .next (s.tookTw hs vs trig period) := by
  simp only [exec, execTw, h, hp, if_true, if_false, State.tookTw]

/-- Ready, with PERIOD 0, TW raises TW_BAD (R159). -/
theorem exec_tw_zero_of_ready {s : State} (h : tgReady s = true) (hs vs trig : Bool) :
    exec (.tw hs vs trig 0) s = raiseFault (.twBad (twWord hs vs trig 0)) s := by
  simp [exec, execTw, h]

/-- TG not ready, TW is no step (assumption 28). -/
theorem exec_tw_of_not_ready {s : State} (h : tgReady s = false) (hs vs trig : Bool) (period : Half) :
    exec (.tw hs vs trig period) s = .next s := by
  simp [exec, execTw, h]

/-- A word that TG takes and that has a reserved bit or PERIOD 0 raises TW_BAD, the word itself recorded (R159). -/
theorem tgTake_of_not_legal {s : State} {w : Word} {ws : List Word} (h : tgReady s = true) (hf : s.tfifo = w :: ws)
    (hw : twLegal w = false) : tgTake s = raiseFault (.twBad w) s := by
  by_cases hres : twReserved w = 0
  · have hper : twPeriod w = 0 := by simpa [twLegal, hres] using hw
    have hdec : decode (.tw w) = .ok (.tw (twHs w) (twVs w) (twTrig w) 0) := by simp [decode, decodeTw, hres, hper]
    have hword : twWord (twHs w) (twVs w) (twTrig w) 0 = w := by rw [← hper]; exact twWord_fields hres
    simp only [tgTake, hf, hdec, exec_tw_zero_of_ready h, hword]
  · have hdec : decode (.tw w) = .error (.twReserved w) := by simp only [decode, decodeTw, hres, if_false]
    simp only [tgTake, hf, hdec]

theorem popLenReady_iff (s : State) : popLenReady s = true ↔ s.en = true ∧ s.popPhase = .len ∧ s.pfifo ≠ [] := by
  simp [popLenReady, and_assoc]

theorem exec_len_of_ready {s : State} (h : popLenReady s = true) (n ign : Half) :
    exec (.len n ign) s = .next { s with pfifo := s.pfifo.tail, popPhase := .pix (n.toNat + 1) } := by
  simp [exec, execLen, h]

theorem exec_len_of_not_ready {s : State} (h : popLenReady s = false) (n ign : Half) : exec (.len n ign) s = .next s := by
  simp [exec, execLen, h]

/-! ### Frames -/

/-- Recording a fault is raising it: nothing but FAULTS changes (R321). -/
theorem raised_recordFault (f : FaultRecord) (s : State) : Raised f s { s with faults := recordFault f s.faults } := by
  refine ⟨fun g => mem_recordFault f g s.faults, fun field h => ?_⟩
  cases field with
  | faults => simp at h
  | mem => exact fun _ => rfl
  | _ => rfl

theorem unchangedExcept_tookTw (s : State) (hs vs trig : Bool) (period : Half) :
    UnchangedExcept [.tfifo, .hs, .vs, .trig, .tgCur, .out] s (s.tookTw hs vs trig period) := by
  intro field h
  cases field with
  | tfifo | hs | vs | trig | tgCur | out => simp at h
  | mem => exact fun _ => rfl
  | _ => rfl

theorem unchangedExcept_pfifo_popPhase (s : State) (ws : List Word) (ph : PopPhase) :
    UnchangedExcept [.pfifo, .popPhase] s { s with pfifo := ws, popPhase := ph } := by
  intro field h
  cases field with
  | pfifo | popPhase => simp at h
  | mem => exact fun _ => rfl
  | _ => rfl

theorem unchangedExcept_writeMem (s : State) (a : Nat) (v : Word) (w : Width) :
    UnchangedExcept [.mem] s (s.writeMem a v w) := by
  intro field h
  cases field with
  | mem => simp at h
  | _ => rfl

/-! ### What no step undoes (R7, R34, R36, R37, R322) -/

/-- Every recorded fault stays recorded, EN once set stays set, PALETTE, CLUT and the parameters are the same. -/
structure Permanent (s t : State) : Prop where
  faults : ∀ f ∈ s.faults, f ∈ t.faults
  en : s.en = true → t.en = true
  palette : t.palette = s.palette
  clut : t.clut = s.clut
  cfg : t.cfg = s.cfg

theorem Permanent.of_eq {s t : State} (faults : t.faults = s.faults) (en : t.en = s.en) (palette : t.palette = s.palette)
    (clut : t.clut = s.clut) (cfg : t.cfg = s.cfg) : Permanent s t :=
  ⟨fun _ h => faults ▸ h, fun h => en.trans h, palette, clut, cfg⟩

theorem Permanent.trans {s t u : State} (h : Permanent s t) (h' : Permanent t u) : Permanent s u :=
  ⟨fun f hf => h'.faults f (h.faults f hf), fun he => h'.en (h.en he), h'.palette.trans h.palette, h'.clut.trans h.clut,
    h'.cfg.trans h.cfg⟩

theorem Permanent.refl (s : State) : Permanent s s := .of_eq rfl rfl rfl rfl rfl

theorem Permanent.recordFault (s : State) (f : FaultRecord) : Permanent s { s with faults := recordFault f s.faults } :=
  ⟨fun g hg => (mem_recordFault f g s.faults).mpr (.inr hg), id, rfl, rfl, rfl⟩

theorem Permanent.setBuf (s : State) (b : BufId) (x : ScanBuffer) : Permanent s (s.setBuf b x) := by
  apply Permanent.of_eq <;> simp

theorem Permanent.writeMem (s : State) (a : Nat) (v : Word) (w : Width) : Permanent s (s.writeMem a v w) :=
  .of_eq rfl rfl rfl rfl rfl

theorem SameBlock.permanent {s t : State} (h : SameBlock s t) : Permanent s t := by
  obtain ⟨hp, pp, m, ph, rfl⟩ := h
  exact .of_eq rfl rfl rfl rfl rfl

theorem BlockEffect.permanent {s t : State} (h : BlockEffect s t) : Permanent s t := by
  cases h with
  | nothing => exact .refl s
  | fault f _ => exact .recordFault s f
  | mode v _ => exact .of_eq rfl rfl rfl rfl rfl
  | start _ => exact ⟨fun _ hf => hf, fun _ => rfl, rfl, rfl, rfl⟩
  | clearFlag b => exact .setBuf s b _
  | pixel b i v _ => exact .setBuf s b _

theorem permanent_dmaTTransfer (k : Category) (j : Slot) (s : State) : Permanent s (dmaTTransfer k j s) := by
  cases j <;> exact .of_eq rfl rfl rfl rfl rfl

theorem permanent_dmaPTransfer (b : BufId) (j : Nat) (s : State) : Permanent s (dmaPTransfer b j s) := by
  unfold dmaPTransfer
  split <;> exact .of_eq rfl rfl rfl rfl rfl

theorem permanent_seqP (s : State) : Permanent s (seqP s) := by
  apply Permanent.of_eq <;> simp [seqP]

theorem AgentEffect.permanent {s t : State} {a : Agent} (h : AgentEffect s a t) : Permanent s t := by
  cases h with
  | stall => exact .refl s
  | periodEnd | tw | popWait | popBlank | len | pair | seqT => exact .of_eq rfl rfl rfl rfl rfl
  | twBad w => exact .recordFault s _
  | dmaT k j _ => exact permanent_dmaTTransfer k j s
  | dmaP b j _ => exact permanent_dmaPTransfer b j s
  | seqP _ => exact permanent_seqP s
  | bus _ _ u _ hu ht => exact hu.permanent.trans ht.permanent
  | memory _ _ x v w _ _ ht => exact (Permanent.writeMem s x v w).trans ht.permanent
  | prod _ ht => exact ht.permanent
  | prodRelease b _ ht => exact (Permanent.setBuf s b _).trans ht.permanent
  | prodPair b i v _ _ ht => exact (Permanent.setBuf s b _).trans ht.permanent
  | prodUnmapped f _ _ ht => exact (Permanent.recordFault s f).trans ht.permanent

theorem step_permanent {s t : State} (h : step s = .next t) : Permanent s t := by
  obtain ⟨sched, tick, he⟩ := step_effect h
  obtain ⟨faults, en, palette, clut, cfg⟩ := he.permanent
  exact ⟨faults, en, palette, clut, cfg⟩

/-! ### Ordinary memory (R80, R82) -/

/-- A write outside the window and inside the bus space stores its bytes. -/
theorem accessAddress_write {s : State} {a : Word} {w : Width} (hw : touchesWindow s.cfg a.toNat w.bytes = false)
    (hb : a.toNat + w.bytes ≤ 2 ^ 32) (m : Master) (v : Word) :
    accessAddress m a w true v s = .next (s.writeMem a.toNat v w) := by
  simp only [accessAddress, hw, accessMemory, inBusSpace, hb, decide_true, if_true, Bool.false_eq_true, if_false]

/-- A read outside the window and inside the bus space replies with its bytes. -/
theorem accessAddress_read {s : State} {a : Word} {w : Width} (hw : touchesWindow s.cfg a.toNat w.bytes = false)
    (hb : a.toNat + w.bytes ≤ 2 ^ 32) (m : Master) (v : Word) :
    accessAddress m a w false v s = .next ({ s with master := m }.reply (s.readMem a.toNat w)) := by
  simp only [accessAddress, hw, accessMemory, inBusSpace, hb, decide_true, if_true, Bool.false_eq_true, if_false]

/-- The low n bits of a word, in a word again. -/
theorem setWidth_extractLsb'_zero (v : Word) (n : Nat) : (v.extractLsb' 0 n).setWidth 32 = BitVec.ofNat 32 (v.toNat % 2 ^ n) := by
  simp [BitVec.toNat_eq]

/-- A read of the access that was just written returns the low bytes of the data: the bytes are put together again. -/
theorem State.readMem_writeMem_self (s : State) (a : Nat) (v : Word) (w : Width) :
    (s.writeMem a v w).readMem a w = BitVec.ofNat 32 (v.toNat % 2 ^ (8 * w.bytes)) := by
  have hbyte : ∀ k, k < w.bytes → (s.writeMem a v w).readByte (a + k) = v.extractLsb' (8 * k) 8 :=
    fun k => State.readByte_writeMem_of_inside s v w
  have h0 : (s.writeMem a v w).readByte a = v.extractLsb' 0 8 := hbyte 0 (by cases w <;> decide)
  cases w with
  | byte =>
    rw [State.readMem, h0]
    exact setWidth_extractLsb'_zero v 8
  | half =>
    rw [State.readMem, h0, hbyte 1 (by decide), BitVec.extractLsb'_append_extractLsb'_eq_extractLsb' (by rfl)]
    exact setWidth_extractLsb'_zero v 16
  | word =>
    rw [State.readMem, h0, hbyte 1 (by decide), hbyte 2 (by decide), hbyte 3 (by decide),
      BitVec.extractLsb'_append_extractLsb'_eq_extractLsb' (start₁ := 0) (by rfl),
      BitVec.extractLsb'_append_extractLsb'_eq_extractLsb' (start₂ := 8 * 3) (by rfl),
      BitVec.extractLsb'_append_extractLsb'_eq_extractLsb' (by rfl)]
    exact (BitVec.setWidth_eq _).symm.trans (setWidth_extractLsb'_zero v 32)

/-! ### An accepted configuration's reset state (R8, R58) -/

theorem boot_of_ok {c : Params} (h : c.ok = true) : boot c = .next (State.resetWith c) := by
  simp only [boot, h, if_true]

theorem boot_of_not_ok {c : Params} (h : ¬ c.ok = true) : boot c = .refused .badConfiguration := by
  simp only [boot, h, if_false, Bool.false_eq_true]

/-- No PERIOD field of an accepted configuration is 0 (R8). -/
theorem periodField_ne_zero {c : Params} (h : c.ok = true) (s : Standard) (j : Slot) : c.periodField s j ≠ 0 := by
  intro hzero
  have hfield : (0 : Int) = c.period s j := by simpa [hzero] using Params.periodField_toNat h s j
  have hperiod := Params.ok_period h s j
  omega

/-- Every timing word of a line is legal (R112). -/
theorem twLegal_lineWords {c : Params} (h : c.ok = true) (s : Standard) (v trig : Bool) (j : Slot) :
    twLegal ((c.lineWords s v trig).get j) = true := by
  cases j <;> exact (twLegal_twWord _ _ _ _).trans (decide_eq_true (periodField_ne_zero h s _))

/-- Every timing word of a build is legal, whatever the mode (R112, R151). -/
theorem twLegal_build {c : Params} (h : c.ok = true) (m : Word) (k : Category) (j : Slot) :
    twLegal (((c.build m).get k).get j) = true := by
  cases k <;> exact twLegal_lineWords h (modeStd m) _ _ j

/-- Standard 0, the one of MODE 0, has at least two visible lines: at least one, and an even number (R8, R39). -/
theorem two_le_vVis_s0 {c : Params} (h : c.ok = true) : 2 ≤ c.vVis.get .s0 := by
  have heven := Params.ok_even h .s0
  obtain ⟨-, hvis, -⟩ := Params.ok_mode h (m := 0) (.inl rfl)
  have hvis' : 1 ≤ c.vVis.get .s0 := hvis
  omega

theorem resetWith_tablesCurrent (c : Params) : TablesCurrent (State.resetWith c) := ⟨rfl, rfl, rfl, .inl rfl⟩

theorem resetWith_linesInRange {c : Params} (h : c.ok = true) : LinesInRange (State.resetWith c) := by
  have hvis : 2 ≤ maxVis c := (two_le_vVis_s0 h).trans (le_max_left _ _)
  have hbp : 2 ≤ maxBpEnd c := by
    obtain ⟨h1, h2, h3⟩ := Params.boundaries c .s0
    exact (two_le_vVis_s0 h).trans ((h1.trans (h2.trans h3)).trans (le_max_left _ _))
  exact ⟨Nat.zero_lt_two.trans_le hbp, Nat.zero_lt_two.trans_le hvis, Nat.zero_lt_two.trans_le hvis, hvis⟩

theorem resetWith_timingWordsLegal {c : Params} (h : c.ok = true) : TimingWordsLegal (State.resetWith c) where
  tbuf := twLegal_build h 0
  tfifo := by simp [State.resetWith]
  tgCur := by simp [State.resetWith]
  notStopped := rfl

theorem resetWith_inv {c : Params} (h : c.ok = true) : Inv (State.resetWith c) where
  cfg := h
  tables := resetWith_tablesCurrent c
  fifos := ⟨Nat.zero_le _, Nat.zero_le _⟩
  completions := ⟨fun _ => ⟨rfl, rfl⟩, fun _ => ⟨rfl, rfl⟩, by simp [State.resetWith], by simp [State.resetWith]⟩
  lines := resetWith_linesInRange h
  words := resetWith_timingWordsLegal h
  memory := State.reset_mem_wf c

theorem resetWith_pixelStreamAligned (c : Params) : PixelStreamAligned (State.resetWith c) := by
  constructor <;> simp [State.resetWith, popPosition, dmaPosition]

/-! ### The statements -/

/-- Settles O40: the one relation Permanent, kept by every effect a step can have. -/
theorem faultsArePermanentAndEnIsSetOnly : Obligations.FaultsArePermanentAndEnIsSetOnly := by
  intro s t h
  obtain ⟨faults, en, palette, clut, cfg⟩ := step_permanent h
  exact ⟨faults, en, palette, clut, cfg⟩

/-- Settles O45: the access is the write of its bytes, and reads them back. -/
theorem memoryWritesAreLittleEndian : Obligations.MemoryWritesAreLittleEndian := by
  intro m a v w s hw hb
  have hread := accessAddress_read (s := s.writeMem a.toNat v w) hw hb m 0
  refine ⟨_, accessAddress_write hw hb m v, fun k => State.readByte_writeMem_of_inside s v w,
    fun x => State.readByte_writeMem_of_outside s v w, unchangedExcept_writeMem s a.toNat v w, _, hread, ?_⟩
  rw [← State.readMem_writeMem_self s a.toNat v w]
  exact congrArg Port.readData (State.port_reply_self { s.writeMem a.toNat v w with master := m } _)

/-- Settles O7: TG's step takes the oldest word and runs what it decodes to. -/
theorem stepRunsTheTimingWord : Obligations.StepRunsTheTimingWord := by
  intro s rest w ws i hsched hready hfifo hdec
  have hready' : tgReady { s with sched := rest } = true := hready
  rw [step_of_sched hsched, agentStep, tgStep_of_ready hready']
  simp only [tgTake, hfifo, hdec]

/-- Settles O8: in both phases, popRaw names the word and the decoder that reads it. -/
theorem stepRunsThePixelWord : Obligations.StepRunsThePixelWord := by
  intro s rest w ws i hsched _ hfifo hphase
  rw [step_of_sched hsched, agentStep]
  rcases hphase with ⟨hlen, hdec⟩ | ⟨⟨c, hpix⟩, hdec⟩
  · exact popStep_eq_exec (by simp only [popRaw, hlen, hfifo]) hdec
  · exact popStep_eq_exec (by simp only [popRaw, hpix, hfifo]) hdec

/-- Settles O10: the outcomes of TW by readiness and PERIOD, and of TG's take of an illegal word. -/
theorem timingWordStartsItsPeriod : Obligations.TimingWordStartsItsPeriod := by
  refine ⟨fun w hres => if_pos hres, ?_, ?_, ?_, ?_⟩
  · intro s hs vs trig period hen hcur hfifo hstop hper
    have hready := (tgReady_iff s).mpr ⟨hen, hstop, hcur, hfifo⟩
    exact ⟨_, exec_tw_of_ready hready hs vs trig hper, rfl, rfl, rfl, rfl, rfl, rfl, unchangedExcept_tookTw s hs vs trig period⟩
  · intro s hs vs trig hen hcur hfifo hstop
    have hready := (tgReady_iff s).mpr ⟨hen, hstop, hcur, hfifo⟩
    exact ⟨_, exec_tw_zero_of_ready hready hs vs trig, raised_recordFault _ s⟩
  · intro s w ws hen hcur hfifo hstop hbad
    have hready := (tgReady_iff s).mpr ⟨hen, hstop, hcur, by simp [hfifo]⟩
    exact ⟨_, (tgStep_of_ready hready).trans (tgTake_of_not_legal hready hfifo hbad), raised_recordFault _ s⟩
  · intro s hs vs trig period hnot
    refine exec_tw_of_not_ready (Bool.eq_false_iff.mpr fun hready => ?_) hs vs trig period
    obtain ⟨hen, -, hcur, hfifo⟩ := (tgReady_iff s).mp hready
    rcases hnot with h | h | h
    · simp [hen] at h
    · exact h hcur
    · exact hfifo h

/-- Settles O15: the two outcomes of LEN by readiness. -/
theorem lenStartsALine : Obligations.LenStartsALine := by
  refine ⟨fun w => rfl, fun s n ign => ⟨fun hen hphase hfifo => ?_, fun hnot => ?_⟩⟩
  · exact ⟨_, exec_len_of_ready ((popLenReady_iff s).mpr ⟨hen, hphase, hfifo⟩) n ign, rfl, rfl,
      unchangedExcept_pfifo_popPhase s _ _⟩
  · refine exec_len_of_not_ready (Bool.eq_false_iff.mpr fun hready => ?_) n ign
    obtain ⟨hen, hphase, hfifo⟩ := (popLenReady_iff s).mp hready
    rcases hnot with h | h | h
    · simp [hen] at h
    · exact h hphase
    · exact hfifo h

/-- Settles O47: an accepted configuration meets each condition of R8, so one that breaks one is not accepted. -/
theorem badConfigurationIsRefused : Obligations.BadConfigurationIsRefused := by
  intro c hbad
  refine boot_of_not_ok fun hok => ?_
  obtain ⟨htfifo, hpfifo, hvis⟩ := Params.ok_fifos hok
  rcases hbad with ⟨s, hodd⟩ | ⟨s, j, hperiod⟩ | h | h | h
  · have := Params.ok_even hok s
    omega
  · obtain ⟨hlow, hhigh⟩ := Params.ok_period hok s j
    rw [Params.period] at hlow hhigh
    omega
  · omega
  · omega
  · omega

/-- Settles O48: reset of any accepted configuration has both invariants, and Config.params is accepted. -/
theorem invariantHoldsAtReset : Obligations.InvariantHoldsAtReset :=
  ⟨fun c hok => ⟨boot_of_ok hok, resetWith_inv hok, resetWith_pixelStreamAligned c⟩,
    Config.params_ok, boot_of_ok Config.params_ok, resetWith_inv Config.params_ok, resetWith_pixelStreamAligned Config.params⟩

end Sys2Proof.Machine
end

section
/-! PROOFS. The statements about the state O1, O2, O41, O42, O44, O49, O51 and O59: which parts of the state each effect writes, when an
agent's step is not taken, who sets and clears what, and then the invariant, one part at a time. -/

namespace Sys2Proof.Machine

/-! ### Frames: composing them -/

theorem Field.same_refl (f : Field) (s : State) : f.same s s := by
  cases f with
  | mem => exact fun _ => rfl
  | _ => rfl

theorem Field.same_trans {f : Field} {s t u : State} (h : f.same s t) (h' : f.same t u) : f.same s u := by
  cases f with
  | mem => exact fun x => (h' x).trans (h x)
  | _ => exact Eq.trans h' h

theorem UnchangedExcept.refl (l : List Field) (s : State) : UnchangedExcept l s s := fun f _ => f.same_refl s

/-- Two steps change at most what the one or the other may. -/
theorem UnchangedExcept.trans {l l' : List Field} {s t u : State} (h : UnchangedExcept l s t) (h' : UnchangedExcept l' t u) :
    UnchangedExcept (l ++ l') s u := fun f hf =>
  Field.same_trans (h f fun hl => hf (List.mem_append_left _ hl)) (h' f fun hl => hf (List.mem_append_right _ hl))

theorem UnchangedExcept.mono {l l' : List Field} {s t : State} (h : UnchangedExcept l s t) (hl : l ⊆ l') : UnchangedExcept l' s t :=
  fun f hf => h f fun hm => hf (hl hm)

/-! ### What each effect writes -/

/-- The fields of the bus masters' side (SameBlock). -/
def sideFields : List Field := [.hostPort, .prodPort, .master, .prod]

theorem SameBlock.frame {s t : State} (h : SameBlock s t) : UnchangedExcept sideFields s t := by
  obtain ⟨hp, pp, m, ph, rfl⟩ := h
  intro f hf
  cases f with
  | hostPort | prodPort | master | prod => simp [sideFields] at hf
  | mem => exact fun _ => rfl
  | _ => rfl

theorem unchangedExcept_setBuf (s : State) (b : BufId) (x : ScanBuffer) : UnchangedExcept [.buf0, .buf1] s (s.setBuf b x) := by
  intro f hf
  cases f with
  | buf0 | buf1 => simp at hf
  | mem => exact State.readByte_congr (State.setBuf_mem s b x) (State.setBuf_cfg s b x)
  | _ => cases b <;> rfl

theorem unchangedExcept_reply (s : State) (v : Word) : UnchangedExcept [.hostPort, .prodPort] s (s.reply v) := by
  intro f hf
  cases f with
  | hostPort | prodPort => simp at hf
  | mem => exact State.readByte_congr (State.reply_mem s v) (State.reply_cfg s v)
  | _ => simp [Field.same]

theorem unchangedExcept_recordFault (s : State) (f : FaultRecord) :
    UnchangedExcept [.faults] s { s with faults := recordFault f s.faults } := (raised_recordFault f s).2

theorem unchangedExcept_startBlock (s : State) : UnchangedExcept [.en, .dmaT, .dmaP, .pbuf] s (startBlock s) := by
  intro f hf
  cases f with
  | en | dmaT | dmaP | pbuf => simp at hf
  | mem => exact fun _ => rfl
  | _ => rfl

theorem unchangedExcept_mode_tbuf (s : State) (m : Word) (x : Categories (Slots Word)) :
    UnchangedExcept [.mode, .tbuf] s { s with mode := m, tbuf := x } := by
  intro f hf
  cases f with
  | mode | tbuf => simp at hf
  | mem => exact fun _ => rfl
  | _ => rfl

/-- What a bus operation may write (R242 to R261), and the ports, one of which a read's value goes to. -/
def busFields : List Field := [.mode, .en, .tbuf, .pbuf, .dmaT, .dmaP, .buf0, .buf1, .faults, .hostPort, .prodPort]

theorem BusEffect.frame {s t : State} (h : BusEffect s t) : UnchangedExcept busFields s t := by
  cases h with
  | nothing => exact .refl _ s
  | reply v => exact (unchangedExcept_reply s v).mono (by simp [busFields])
  | fault f _ => exact (unchangedExcept_recordFault s f).mono (by simp [busFields])
  | mode v _ => exact (unchangedExcept_mode_tbuf s v _).mono (by simp [busFields])
  | start _ => exact (unchangedExcept_startBlock s).mono (by simp [busFields])
  | clearFlag b => exact (unchangedExcept_setBuf s b _).mono (by simp [busFields])
  | pixel b i v _ => exact (unchangedExcept_setBuf s b _).mono (by simp [busFields])

/-- Every block effect is a bus effect. -/
theorem BlockEffect.busEffect {s t : State} (h : BlockEffect s t) : BusEffect s t := by
  cases h with
  | nothing => exact .nothing
  | fault f h => exact .fault f h
  | mode v h => exact .mode v h
  | start h => exact .start h
  | clearFlag b => exact .clearFlag b
  | pixel b i v h => exact .pixel b i v h

/-- What TW may write, or the TW_BAD it raises (R156, R159). -/
def twFields : List Field := [.tfifo, .tgCur, .hs, .vs, .trig, .out, .faults]

/-- What LEN and PAIR may write (R181, R182). -/
def pixelFields : List Field := [.pfifo, .popPhase, .rgb, .out]

theorem TakeEffect.frame {s t : State} (h : TakeEffect s t) : UnchangedExcept (twFields ++ pixelFields) s t := by
  cases h with
  | stall => exact .refl _ s
  | tw hs vs trig period _ _ => exact (unchangedExcept_tookTw s hs vs trig period).mono (by simp [twFields])
  | twBad w _ => exact (unchangedExcept_recordFault s _).mono (by simp [twFields])
  | len n _ => exact (unchangedExcept_pfifo_popPhase s _ _).mono (by simp [pixelFields])
  | pair c pix0 pix1 _ =>
    intro f hf
    cases f with
    | pfifo | popPhase | rgb | out => simp [pixelFields] at hf
    | mem => exact fun _ => rfl
    | _ => rfl

/-- Every instruction answers a next state, in which only what its kind writes has changed. -/
theorem exec_frame (i : Instr) (s : State) :
    ∃ t, exec i s = .next t ∧ UnchangedExcept (busFields ++ (twFields ++ pixelFields)) s t := by
  obtain ⟨t, ht, he | he⟩ := exec_effect i s
  · exact ⟨t, ht, he.frame.mono (List.subset_append_left _ _)⟩
  · exact ⟨t, ht, he.frame.mono (List.subset_append_right _ _)⟩

/-- What a step of an agent may write. -/
def writtenBy : Agent → List Field
  | .tg => twFields
  | .pop => .trig :: pixelFields
  | .dmaT => [.tfifo, .dmaT, .tDone]
  | .dmaP => [.pfifo, .dmaP, .pDone]
  | .seqT => [.tDone, .t, .dmaT, .out]
  | .seqP => [.pDone, .p, .clash, .dmaP, .pbuf, .buf0, .buf1, .out]
  | .hostBus => .mem :: busFields ++ sideFields
  | .prodBus => .mem :: busFields ++ sideFields
  | .prodLoop => [.buf0, .buf1, .faults] ++ sideFields

theorem unchangedExcept_dmaTTransfer (k : Category) (j : Slot) (s : State) :
    UnchangedExcept (writtenBy .dmaT) s (dmaTTransfer k j s) := by
  intro f hf
  cases f with
  | tfifo | dmaT | tDone => simp [writtenBy] at hf
  | mem => cases j <;> exact fun _ => rfl
  | _ => cases j <;> rfl

theorem unchangedExcept_dmaPTransfer (b : BufId) (j : Nat) (s : State) :
    UnchangedExcept (writtenBy .dmaP) s (dmaPTransfer b j s) := by
  intro f hf
  unfold dmaPTransfer
  cases f with
  | pfifo | dmaP | pDone => simp [writtenBy] at hf
  | mem => split <;> exact fun _ => rfl
  | _ => split <;> rfl

theorem unchangedExcept_seqT (s : State) : UnchangedExcept (writtenBy .seqT) s (seqT s) := by
  intro f hf
  cases f with
  | tDone | t | dmaT | out => simp [writtenBy] at hf
  | mem => exact fun _ => rfl
  | _ => rfl

theorem unchangedExcept_seqP (s : State) : UnchangedExcept (writtenBy .seqP) s (seqP s) := by
  intro f hf
  cases f with
  | pDone | p | clash | dmaP | pbuf | buf0 | buf1 | out => simp [writtenBy] at hf
  | mem => exact State.readByte_congr (by simp [seqP]) (by simp [seqP])
  | _ => simp [Field.same, seqP]

/-- A step of an agent changes only what the agent writes. -/
theorem AgentEffect.frame {s t : State} {a : Agent} (he : AgentEffect s a t) : UnchangedExcept (writtenBy a) s t := by
  cases he with
  | stall => exact .refl _ s
  | periodEnd | tw | twBad =>
    intro f hf
    cases f with
    | tfifo | tgCur | hs | vs | trig | out | faults => simp [writtenBy, twFields] at hf
    | mem => exact fun _ => rfl
    | _ => rfl
  | popWait | popBlank | len | pair =>
    intro f hf
    cases f with
    | trig | pfifo | popPhase | rgb | out => simp [writtenBy, pixelFields] at hf
    | mem => exact fun _ => rfl
    | _ => rfl
  | dmaT k j _ => exact unchangedExcept_dmaTTransfer k j s
  | dmaP b j _ => exact unchangedExcept_dmaPTransfer b j s
  | seqT _ => exact unchangedExcept_seqT s
  | seqP _ => exact unchangedExcept_seqP s
  | bus _ ha _ _ hu ht => rcases ha with rfl | rfl <;> exact (hu.busEffect.frame.trans ht.frame).mono (List.subset_cons_self _ _)
  | memory _ ha x v w _ _ ht =>
    rcases ha with rfl | rfl <;> exact ((unchangedExcept_writeMem s x v w).trans ht.frame).mono (by simp [writtenBy])
  | prod _ ht => exact ht.frame.mono (List.subset_append_right _ _)
  | prodRelease b _ ht => exact ((unchangedExcept_setBuf s b _).trans ht.frame).mono (by simp [writtenBy, sideFields])
  | prodPair b i v _ _ ht => exact ((unchangedExcept_setBuf s b _).trans ht.frame).mono (by simp [writtenBy, sideFields])
  | prodUnmapped f _ _ ht => exact ((unchangedExcept_recordFault s f).trans ht.frame).mono (by simp [writtenBy])

/-- What a step of an agent changed is something the agent writes. -/
theorem AgentEffect.mem_writes {s t : State} {a : Agent} {f : Field} (he : AgentEffect s a t) (h : ¬ f.same s t) : f ∈ writtenBy a :=
  by_contra fun hf => h (he.frame f hf)

/-! ### A step that is not enabled is not taken (R11) -/

theorem popTake_of_not_ready {s : State} (hlen : popLenReady s = false) (hpair : popPairReady s = none) : popTake s = .next s := by
  unfold popTake popRaw
  split
  · rfl
  · rename_i raw hraw
    split at hraw <;> simp only [Option.some.injEq, reduceCtorEq] at hraw <;> subst hraw
    · simp only [decode, exec, execLen, hlen, stall_eq, Bool.false_eq_true, if_false]
    · simp only [decode, exec, execPair, hpair, stall_eq]

/-- An agent whose step is not enabled stalls (R11, R158, R185; assumption 10). -/
theorem agentStep_of_not_enabled {s : State} {a : Agent} (h : agentEnabled a s = false) : agentStep a s = .next s := by
  cases a with
  | tg =>
    obtain ⟨hend, hready⟩ : tgPeriodEndEnabled s = false ∧ tgReady s = false := by simpa [agentEnabled] using h
    simp [agentStep, tgStep, hend, hready]
  | pop =>
    obtain ⟨⟨⟨hwait, hblank⟩, hlen⟩, hpair⟩ :
        ((popWaitEnabled s = false ∧ popBlankEnabled s = false) ∧ popLenReady s = false) ∧ popPairReady s = none := by
      simpa [agentEnabled] using h
    simp [agentStep, popStep, hwait, hblank, popTake_of_not_ready hlen hpair]
  | dmaT =>
    have hready : dmaTReady s = none := by simpa [agentEnabled] using h
    simp [agentStep, dmaTStep, hready]
  | dmaP =>
    have hready : dmaPReady s = none := by simpa [agentEnabled] using h
    simp [agentStep, dmaPStep, hready]
  | seqT =>
    have hen : seqTEnabled s = false := h
    simp [agentStep, seqTStep, hen]
  | seqP =>
    have hen : seqPEnabled s = false := h
    simp [agentStep, seqPStep, hen]
  | hostBus =>
    have hreq : (s.port .host).requests = [] := by simpa [agentEnabled, State.port] using h
    simp [agentStep, portStep, hreq]
  | prodBus =>
    have hreq : (s.port .prod).requests = [] := by simpa [agentEnabled, State.port] using h
    simp [agentStep, portStep, hreq]
  | prodLoop => simp [agentEnabled] at h

/-- With EN = 0 no agent of the block is enabled: each one's condition has EN in it (R34, R160, R186). -/
theorem not_agentEnabled_of_stopped {s : State} {a : Agent} (hen : s.en = false) (ha : a ∉ [Agent.hostBus, .prodBus, .prodLoop]) :
    agentEnabled a s = false := by
  cases a with
  | tg => simp [agentEnabled, tgPeriodEndEnabled, tgReady, hen]
  | pop =>
    have hpair : popPairReady s = none := by unfold popPairReady; split <;> simp [hen]
    simp [agentEnabled, popWaitEnabled, popBlankEnabled, popLenReady, hpair, hen]
  | dmaT =>
    have hready : dmaTReady s = none := by unfold dmaTReady; split <;> simp [hen]
    simp [agentEnabled, hready]
  | dmaP =>
    have hready : dmaPReady s = none := by unfold dmaPReady; split <;> simp [hen]
    simp [agentEnabled, hready]
  | seqT => simp [agentEnabled, seqTEnabled, hen]
  | seqP => simp [agentEnabled, seqPEnabled, hen]
  | hostBus | prodBus | prodLoop => simp at ha

/-! ### Who sets and clears what (R38 to R41, R46, R47, R52, R53) -/

/-- No buffer has been handed to PROD: its tag is the same, and a flag that is set was set before. -/
def NoHandOver (s t : State) : Prop := ∀ b, (t.buf b).line = (s.buf b).line ∧ ((t.buf b).flag = true → (s.buf b).flag = true)

theorem NoHandOver.of_eq {s t : State} (h0 : t.buf0 = s.buf0) (h1 : t.buf1 = s.buf1) : NoHandOver s t := by
  intro b
  cases b with
  | buf0 => exact ⟨congrArg ScanBuffer.line h0, fun h => (congrArg ScanBuffer.flag h0).symm.trans h⟩
  | buf1 => exact ⟨congrArg ScanBuffer.line h1, fun h => (congrArg ScanBuffer.flag h1).symm.trans h⟩

/-- A frame without the buffers hands none over. -/
theorem NoHandOver.of_frame {l : List Field} {s t : State} (h : UnchangedExcept l s t) (hl : .buf0 ∉ l ∧ .buf1 ∉ l) :
    NoHandOver s t := .of_eq (h .buf0 hl.1) (h .buf1 hl.2)

theorem NoHandOver.trans {s t u : State} (h : NoHandOver s t) (h' : NoHandOver t u) : NoHandOver s u :=
  fun b => ⟨(h' b).1.trans (h b).1, fun hf => (h b).2 ((h' b).2 hf)⟩

/-- A buffer replaced by one with its tag, and its flag or a cleared one. -/
theorem NoHandOver.setBuf (s : State) (b : BufId) {x : ScanBuffer} (hline : x.line = (s.buf b).line)
    (hflag : x.flag = true → (s.buf b).flag = true) : NoHandOver s (s.setBuf b x) := by
  intro b'
  by_cases hb : b' = b
  · subst hb
    rw [State.buf_setBuf_self]
    exact ⟨hline, hflag⟩
  · rw [State.buf_setBuf_of_ne s x hb]
    exact ⟨rfl, id⟩

theorem NoHandOver.clearFlag (s : State) (b : BufId) : NoHandOver s (s.setBuf b (s.buf b).clearFlag) :=
  .setBuf s b rfl (by simp)

theorem NoHandOver.setPixel (s : State) (b : BufId) (i : Nat) (v : Word) : NoHandOver s (s.setBuf b ((s.buf b).setPixel i v)) :=
  .setBuf s b (by simp) (by simp)

theorem SameBlock.noHandOver {s t : State} (h : SameBlock s t) : NoHandOver s t := .of_frame h.frame (by decide)

theorem BlockEffect.noHandOver {s t : State} (h : BlockEffect s t) : NoHandOver s t := by
  cases h with
  | clearFlag b => exact .clearFlag s b
  | pixel b i v _ => exact .setPixel s b i v
  | nothing | fault | mode | start => exact .of_eq rfl rfl

/-- What a bus master's agent does, its own side left out: a block effect, or a write to ordinary memory. -/
inductive MasterEffect (s : State) : State → Prop where
  | block {t : State} (h : BlockEffect s t) : MasterEffect s t
  | memory (x : Nat) (v : Word) (w : Width) (h : inBusSpace x w.bytes = true) : MasterEffect s (s.writeMem x v w)

/-- The agents of the two bus masters: their ports and PROD's loop. -/
abbrev masterAgents : List Agent := [.hostBus, .prodBus, .prodLoop]

/-- The bus masters' agents act on the block through MasterEffect only. -/
theorem AgentEffect.masterEffect {s t : State} {a : Agent} (ha : a ∈ masterAgents) (he : AgentEffect s a t) :
    ∃ u, MasterEffect s u ∧ SameBlock u t := by
  cases he with
  | stall => exact ⟨s, .block .nothing, .refl s⟩
  | bus _ _ u _ hu ht => exact ⟨u, .block hu, ht⟩
  | memory _ _ x v w _ h ht => exact ⟨_, .memory x v w h, ht⟩
  | prod _ ht => exact ⟨s, .block .nothing, ht⟩
  | prodRelease b _ ht => exact ⟨_, .block (.clearFlag b), ht⟩
  | prodPair b i v h _ ht => exact ⟨_, .block (.pixel b i v h), ht⟩
  | prodUnmapped f h _ ht => exact ⟨_, .block (.fault f h), ht⟩
  | _ => simp at ha

theorem MasterEffect.noHandOver {s t : State} (h : MasterEffect s t) : NoHandOver s t := by
  cases h with
  | block h => exact h.noHandOver
  | memory x v w _ => exact .of_eq rfl rfl

/-- Only SEQ_P hands a buffer over (R52, R53, R218). -/
theorem AgentEffect.noHandOver {s t : State} {a : Agent} (he : AgentEffect s a t) (ha : a ≠ .seqP) : NoHandOver s t := by
  cases a with
  | hostBus | prodBus | prodLoop =>
    obtain ⟨u, hu, ht⟩ := he.masterEffect (by decide)
    exact hu.noHandOver.trans ht.noHandOver
  | seqP => exact absurd rfl ha
  | tg | pop | dmaT | dmaP | seqT => exact .of_frame he.frame (by decide)

/-- A step of SEQ_T is no step, or the line advance of a completion (R207, R210). -/
theorem AgentEffect.seqT_cases {s t : State} (he : AgentEffect s .seqT t) :
    t = s ∨ (s.en = true ∧ s.tDone = true) ∧ t = Machine.seqT s := by
  cases he with
  | stall => exact .inl rfl
  | seqT h => exact .inr ⟨Bool.and_eq_true_iff.mp h, rfl⟩
  | bus _ ha | memory _ ha => simp at ha

/-- A step of SEQ_P is no step, or the line advance of a completion (R207, R212). -/
theorem AgentEffect.seqP_cases {s t : State} (he : AgentEffect s .seqP t) :
    t = s ∨ (s.en = true ∧ s.pDone = true) ∧ t = Machine.seqP s := by
  cases he with
  | stall => exact .inl rfl
  | seqP h => exact .inr ⟨Bool.and_eq_true_iff.mp h, rfl⟩
  | bus _ ha | memory _ ha => simp at ha

theorem seqT_of_writes_t {a : Agent} (h : .t ∈ writtenBy a) : a = .seqT := by revert h; cases a <;> decide

theorem seqP_of_writes_p_or_clash {a : Agent} (h : .p ∈ writtenBy a ∨ .clash ∈ writtenBy a) : a = .seqP := by
  revert h; cases a <;> decide

theorem seqP_or_master_of_writes_pbuf {a : Agent} (h : .pbuf ∈ writtenBy a) : a = .seqP ∨ a ∈ masterAgents := by
  revert h; cases a <;> decide

theorem tg_of_writes_sync {a : Agent} (h : .hs ∈ writtenBy a ∨ .vs ∈ writtenBy a) : a = .tg := by revert h; cases a <;> decide

theorem tg_or_pop_of_writes_trig {a : Agent} (h : .trig ∈ writtenBy a) : a = .tg ∨ a = .pop := by revert h; cases a <;> decide

theorem pop_of_writes_rgb {a : Agent} (h : .rgb ∈ writtenBy a) : a = .pop := by revert h; cases a <;> decide

theorem port_of_writes_mode_or_tbuf {a : Agent} (h : .mode ∈ writtenBy a ∨ .tbuf ∈ writtenBy a) : a = .hostBus ∨ a = .prodBus := by
  revert h; cases a <;> decide

/-- T changes only in a SEQ_T that takes a completion (R38). -/
theorem AgentEffect.seqT_of_t_ne {s t : State} {a : Agent} (he : AgentEffect s a t) (hne : t.t ≠ s.t) :
    a = .seqT ∧ s.tDone = true := by
  obtain rfl := seqT_of_writes_t (he.mem_writes hne)
  rcases he.seqT_cases with rfl | ⟨⟨-, hdone⟩, -⟩
  · exact absurd rfl hne
  · exact ⟨rfl, hdone⟩

/-- P and CLASH change only in a SEQ_P that takes a completion (R39, R41). -/
theorem AgentEffect.seqP_of_p_or_clash_ne {s t : State} {a : Agent} (he : AgentEffect s a t) (hne : t.p ≠ s.p ∨ t.clash ≠ s.clash) :
    a = .seqP ∧ s.pDone = true := by
  obtain rfl := seqP_of_writes_p_or_clash (hne.imp (he.mem_writes (f := .p)) (he.mem_writes (f := .clash)))
  rcases he.seqP_cases with rfl | ⟨⟨-, hdone⟩, -⟩
  · simp at hne
  · exact ⟨rfl, hdone⟩

/-- A block effect that moves PBUF is the start of a stopped block (R244). -/
theorem BlockEffect.stopped_of_pbuf_ne {s t : State} (h : BlockEffect s t) (hne : t.pbuf ≠ s.pbuf) : s.en = false := by
  cases h with
  | start hen => exact hen
  | clearFlag | pixel => simp at hne
  | nothing | fault | mode => exact absurd rfl hne

/-- PBUF moves only by SEQ_P and by the start (R40, R203). -/
theorem AgentEffect.seqP_or_stopped_of_pbuf_ne {s t : State} {a : Agent} (he : AgentEffect s a t) (hne : t.pbuf ≠ s.pbuf) :
    a = .seqP ∨ s.en = false := by
  refine (seqP_or_master_of_writes_pbuf (he.mem_writes hne)).imp_right fun ha => ?_
  obtain ⟨u, hu, ht⟩ := he.masterEffect ha
  have hpbuf : t.pbuf = u.pbuf := ht.frame .pbuf (by decide)
  cases hu with
  | block h => exact h.stopped_of_pbuf_ne (hpbuf ▸ hne)
  | memory => exact absurd hpbuf hne

/-- A step of TG leaves a trigger that is set (R47, R156). -/
theorem AgentEffect.tg_trig {s t : State} (he : AgentEffect s .tg t) (h : s.trig = true) : t.trig = true := by
  cases he with
  | tw w ws _ _ _ => simp [trigAfterWord, h]
  | bus _ ha | memory _ ha => simp at ha
  | stall | periodEnd | twBad => exact h

/-- A step of POP leaves TRIG, but for its wait step, which clears it (R47, R180). -/
theorem AgentEffect.pop_trig {s t : State} (he : AgentEffect s .pop t) :
    t.trig = s.trig ∨ (s.popPhase = .wait ∧ t.trig = false) := by
  cases he with
  | popWait h =>
    obtain ⟨⟨-, hphase⟩, -⟩ : (s.en = true ∧ s.popPhase = .wait) ∧ s.trig = true := by simpa [popWaitEnabled] using h
    exact .inr ⟨hphase, rfl⟩
  | bus _ ha | memory _ ha => simp at ha
  | stall | popBlank | len | pair => exact .inl rfl

/-- Only TG sets TRIG. -/
theorem AgentEffect.tg_of_trig_set {s t : State} {a : Agent} (he : AgentEffect s a t) (h : s.trig = false) (h' : t.trig = true) :
    a = .tg := by
  rcases tg_or_pop_of_writes_trig (he.mem_writes (by simp [Field.same, h, h'])) with rfl | rfl
  · rfl
  · rcases he.pop_trig with heq | ⟨-, hclear⟩
    · simp [heq, h] at h'
    · simp [hclear] at h'

/-- Only POP clears TRIG, when it leaves its wait. -/
theorem AgentEffect.pop_of_trig_cleared {s t : State} {a : Agent} (he : AgentEffect s a t) (h : s.trig = true) (h' : t.trig = false) :
    a = .pop ∧ s.popPhase = .wait := by
  rcases tg_or_pop_of_writes_trig (he.mem_writes (by simp [Field.same, h, h'])) with rfl | rfl
  · simp [he.tg_trig h] at h'
  · rcases he.pop_trig with heq | ⟨hphase, -⟩
    · simp [heq, h] at h'
    · exact ⟨rfl, hphase⟩

/-! ### POP's line (R54, R114, R181 to R184) -/

theorem popPairReady_eq_some {s : State} {c : Nat} (hen : s.en = true) (hphase : s.popPhase = .pix c) (hfifo : s.pfifo ≠ []) :
    popPairReady s = some c := by
  simp [popPairReady, hphase, hen, hfifo]

/-- Ready, PAIR shows its two pixels and counts down (R182). -/
theorem exec_pair_of_ready {s : State} {c : Nat} (h : popPairReady s = some c) (pix0 : Colour) (ignLo : BitVec 4) (pix1 : Colour)
    (ignHi : BitVec 4) :
    exec (.pair pix0 ignLo pix1 ignHi) s =
      .next
        { s with
          pfifo := s.pfifo.tail
          rgb := pix1
          out := s.out ++ [.rgbPins pix0 s.cfg.cpp, .rgbPins pix1 s.cfg.cpp]
          popPhase := popPhaseAfterPair c } := by
  simp only [exec, execPair, h]

/-- In phase Len the oldest word of an aligned stream is the LEN word 319: it begins a line (R54, R114). -/
theorem PixelStreamAligned.head_of_len {s : State} {w : Word} {ws : List Word} (h : PixelStreamAligned s) (hphase : s.popPhase = .len)
    (hfifo : s.pfifo = w :: ws) : w = 319 :=
  h.lenWords 0 w (by simp [hfifo]) (by simp [hphase, popPosition])

/-! ### POP's trigger (R47, R187, R360) -/

theorem popStep_of_blank {s : State} (hen : s.en = true) (hphase : s.popPhase = .blank) : popStep s = .next (popBlank s) := by
  simp [popStep, popWaitEnabled, popBlankEnabled, hen, hphase]

theorem popStep_of_wait {s : State} (hen : s.en = true) (hphase : s.popPhase = .wait) (htrig : s.trig = true) :
    popStep s = .next (popWait s) := by
  simp [popStep, popWaitEnabled, hen, hphase, htrig]

/-! ### The invariant, one part at a time: which fields it speaks of, and what the effects that write one of them do -/

/-! #### The tables (R32, R35 to R37) -/

theorem TablesCurrent.of_frame {l : List Field} {s t : State} (h : TablesCurrent s) (hf : UnchangedExcept l s t)
    (hl : ∀ f ∈ [Field.cfg, .mode, .tbuf, .palette, .clut], f ∉ l) : TablesCurrent t := by
  have hcfg : t.cfg = s.cfg := hf .cfg (hl _ (by simp))
  have hmode : t.mode = s.mode := hf .mode (hl _ (by simp))
  have htbuf : t.tbuf = s.tbuf := hf .tbuf (hl _ (by simp))
  have hpalette : t.palette = s.palette := hf .palette (hl _ (by simp))
  have hclut : t.clut = s.clut := hf .clut (hl _ (by simp))
  constructor
  · rw [htbuf, hcfg, hmode, h.tbuf]
  · rw [hpalette, hcfg, h.palette]
  · rw [hclut, hpalette, h.clut]
  · rw [hcfg, hmode]
    exact h.mode

theorem BlockEffect.tablesCurrent {s t : State} (he : BlockEffect s t) (h : TablesCurrent s) : TablesCurrent t := by
  cases he with
  | nothing => exact h
  | mode v hv => exact ⟨rfl, h.palette, h.clut, .inr hv⟩
  | fault | start => exact ⟨h.tbuf, h.palette, h.clut, h.mode⟩
  | clearFlag b | pixel b => exact h.of_frame (unchangedExcept_setBuf s b _) (by decide)

theorem MasterEffect.tablesCurrent {s t : State} (he : MasterEffect s t) (h : TablesCurrent s) : TablesCurrent t := by
  cases he with
  | block he => exact he.tablesCurrent h
  | memory => exact ⟨h.tbuf, h.palette, h.clut, h.mode⟩

theorem AgentEffect.tablesCurrent {s t : State} {a : Agent} (he : AgentEffect s a t) (h : TablesCurrent s) : TablesCurrent t := by
  cases a with
  | hostBus | prodBus | prodLoop =>
    obtain ⟨u, hu, ht⟩ := he.masterEffect (by decide)
    exact (hu.tablesCurrent h).of_frame ht.frame (by decide)
  | tg | pop | dmaT | dmaP | seqT | seqP => exact h.of_frame he.frame (by decide)

/-! #### The DMA transfers (R201, R204) -/

theorem dmaTReady_eq_some {s : State} {k : Category} {j : Slot} (h : dmaTReady s = some (k, j)) :
    s.dmaT = .active k j ∧ s.en = true ∧ s.tfifo.length < s.cfg.tfifoDepth := by
  unfold dmaTReady at h
  split at h
  · rename_i k' j' hactive
    obtain ⟨⟨hen, hroom⟩, rfl, rfl⟩ :
        (s.en = true ∧ s.tfifo.length < s.cfg.tfifoDepth) ∧ k' = k ∧ j' = j := by simpa using h
    exact ⟨hactive, hen, hroom⟩
  · simp at h

theorem dmaPReady_eq_some {s : State} {b : BufId} {j : Nat} (h : dmaPReady s = some (b, j)) :
    s.dmaP = .active b j ∧ s.en = true ∧ s.pfifo.length < s.cfg.pfifoDepth := by
  unfold dmaPReady at h
  split at h
  · rename_i b' j' hactive
    obtain ⟨⟨hen, hroom⟩, rfl, rfl⟩ :
        (s.en = true ∧ s.pfifo.length < s.cfg.pfifoDepth) ∧ b' = b ∧ j' = j := by simpa using h
    exact ⟨hactive, hen, hroom⟩
  · simp at h

@[simp] theorem dmaTTransfer_tfifo (k : Category) (j : Slot) (s : State) :
    (dmaTTransfer k j s).tfifo = s.tfifo ++ [(s.tbuf.get k).get j] := by cases j <;> rfl

@[simp] theorem dmaPTransfer_pfifo (b : BufId) (j : Nat) (s : State) :
    (dmaPTransfer b j s).pfifo = s.pfifo ++ [(s.buf b).dmaWord j] := by unfold dmaPTransfer; split <;> rfl

/-- A transfer of an active channel leaves it idle exactly when it sets the completion (R201, R202). -/
theorem dmaTTransfer_idle_iff {s : State} (h : s.tDone = false) (k : Category) (j : Slot) :
    (dmaTTransfer k j s).dmaT = .idle ↔ (dmaTTransfer k j s).tDone = true := by
  cases j <;> simp [dmaTTransfer, Slot.next, h]

/-- A transfer of an active channel leaves it idle exactly when it sets the completion (R204). -/
theorem dmaPTransfer_idle_iff {s : State} (h : s.pDone = false) (b : BufId) (j : Nat) :
    (dmaPTransfer b j s).dmaP = .idle ↔ (dmaPTransfer b j s).pDone = true := by
  unfold dmaPTransfer
  split <;> simp [h]

/-- A step of DMA_T is no step, or a transfer of the active channel into a FIFO with room. -/
theorem AgentEffect.dmaT_cases {s t : State} (he : AgentEffect s .dmaT t) :
    t = s ∨ ∃ k j, (s.dmaT = .active k j ∧ s.en = true ∧ s.tfifo.length < s.cfg.tfifoDepth) ∧ t = dmaTTransfer k j s := by
  cases he with
  | stall => exact .inl rfl
  | dmaT k j h => exact .inr ⟨k, j, dmaTReady_eq_some h, rfl⟩
  | bus _ ha | memory _ ha => simp at ha

/-- A step of DMA_P is no step, or a transfer of the active channel into a FIFO with room. -/
theorem AgentEffect.dmaP_cases {s t : State} (he : AgentEffect s .dmaP t) :
    t = s ∨ ∃ b j, (s.dmaP = .active b j ∧ s.en = true ∧ s.pfifo.length < s.cfg.pfifoDepth) ∧ t = dmaPTransfer b j s := by
  cases he with
  | stall => exact .inl rfl
  | dmaP b j h => exact .inr ⟨b, j, dmaPReady_eq_some h, rfl⟩
  | bus _ ha | memory _ ha => simp at ha

/-! #### The FIFOs (R45, R49) -/

theorem FifosBounded.of_frame {l : List Field} {s t : State} (h : FifosBounded s) (hf : UnchangedExcept l s t)
    (hl : ∀ f ∈ [Field.cfg, .tfifo, .pfifo], f ∉ l) : FifosBounded t := by
  have hcfg : t.cfg = s.cfg := hf .cfg (hl _ (by simp))
  have htfifo : t.tfifo = s.tfifo := hf .tfifo (hl _ (by simp))
  have hpfifo : t.pfifo = s.pfifo := hf .pfifo (hl _ (by simp))
  constructor
  · rw [htfifo, hcfg]
    exact h.tfifo
  · rw [hpfifo, hcfg]
    exact h.pfifo

/-- A FIFO is no longer once its oldest word is taken. -/
theorem length_le_of_head_taken {ws l : List Word} {w : Word} {n : Nat} (hhead : l = w :: ws) (h : l.length ≤ n) : ws.length ≤ n :=
  (List.sublist_cons_self w ws).length_le.trans (hhead ▸ h)

theorem AgentEffect.fifosBounded {s t : State} {a : Agent} (he : AgentEffect s a t) (h : FifosBounded s) : FifosBounded t := by
  cases a with
  | tg =>
    cases he with
    | tw w ws _ hhead _ => exact ⟨length_le_of_head_taken hhead h.tfifo, h.pfifo⟩
    | stall | periodEnd | twBad => exact ⟨h.tfifo, h.pfifo⟩
    | bus _ ha | memory _ ha => simp at ha
  | pop =>
    cases he with
    | len w ws _ _ hhead | pair _ w ws _ _ hhead => exact ⟨h.tfifo, length_le_of_head_taken hhead h.pfifo⟩
    | stall | popWait | popBlank => exact ⟨h.tfifo, h.pfifo⟩
    | bus _ ha | memory _ ha => simp at ha
  | dmaT =>
    have hf := he.frame
    rcases he.dmaT_cases with rfl | ⟨k, j, ⟨-, -, hroom⟩, rfl⟩
    · exact h
    · have hcfg : (dmaTTransfer k j s).cfg = s.cfg := hf .cfg (by decide)
      have hpfifo : (dmaTTransfer k j s).pfifo = s.pfifo := hf .pfifo (by decide)
      exact ⟨by simpa [hcfg] using hroom, by rw [hpfifo, hcfg]; exact h.pfifo⟩
  | dmaP =>
    have hf := he.frame
    rcases he.dmaP_cases with rfl | ⟨b, j, ⟨-, -, hroom⟩, rfl⟩
    · exact h
    · have hcfg : (dmaPTransfer b j s).cfg = s.cfg := hf .cfg (by decide)
      have htfifo : (dmaPTransfer b j s).tfifo = s.tfifo := hf .tfifo (by decide)
      exact ⟨by rw [htfifo, hcfg]; exact h.tfifo, by simpa [hcfg] using hroom⟩
  | seqT | seqP | hostBus | prodBus | prodLoop => exact h.of_frame he.frame (by decide)

/-! #### The completions (R325) -/

theorem CompletionsExclusive.of_running {s : State} (hen : s.en = true) (hT : s.dmaT = .idle ↔ s.tDone = true)
    (hP : s.dmaP = .idle ↔ s.pDone = true) : CompletionsExclusive s :=
  ⟨by simp [hen], by simp [hen], fun _ => hT, fun _ => hP⟩

theorem CompletionsExclusive.of_frame {l : List Field} {s t : State} (h : CompletionsExclusive s) (hf : UnchangedExcept l s t)
    (hl : ∀ f ∈ [Field.en, .tDone, .pDone, .dmaT, .dmaP], f ∉ l) : CompletionsExclusive t := by
  have hen : t.en = s.en := hf .en (hl _ (by simp))
  have htDone : t.tDone = s.tDone := hf .tDone (hl _ (by simp))
  have hpDone : t.pDone = s.pDone := hf .pDone (hl _ (by simp))
  have hdmaT : t.dmaT = s.dmaT := hf .dmaT (hl _ (by simp))
  have hdmaP : t.dmaP = s.dmaP := hf .dmaP (hl _ (by simp))
  constructor <;> simp only [hen, htDone, hpDone, hdmaT, hdmaP]
  · exact h.stoppedT
  · exact h.stoppedP
  · exact h.runningT
  · exact h.runningP

/-- While the block runs, an active DMA_T has no completion pending. -/
theorem CompletionsExclusive.tDone_of_active {s : State} {k : Category} {j : Slot} (h : CompletionsExclusive s) (hen : s.en = true)
    (hactive : s.dmaT = .active k j) : s.tDone = false :=
  Bool.eq_false_iff.mpr fun hdone => by simpa [hactive] using (h.runningT hen).mpr hdone

/-- While the block runs, an active DMA_P has no completion pending. -/
theorem CompletionsExclusive.pDone_of_active {s : State} {b : BufId} {j : Nat} (h : CompletionsExclusive s) (hen : s.en = true)
    (hactive : s.dmaP = .active b j) : s.pDone = false :=
  Bool.eq_false_iff.mpr fun hdone => by simpa [hactive] using (h.runningP hen).mpr hdone

theorem BlockEffect.completionsExclusive {s t : State} (he : BlockEffect s t) (h : CompletionsExclusive s) : CompletionsExclusive t := by
  cases he with
  | nothing => exact h
  | start hen => exact .of_running rfl (by simp [(h.stoppedT hen).2]) (by simp [(h.stoppedP hen).2])
  | fault | mode => exact ⟨h.stoppedT, h.stoppedP, h.runningT, h.runningP⟩
  | clearFlag b | pixel b => exact h.of_frame (unchangedExcept_setBuf s b _) (by decide)

theorem MasterEffect.completionsExclusive {s t : State} (he : MasterEffect s t) (h : CompletionsExclusive s) :
    CompletionsExclusive t := by
  cases he with
  | block he => exact he.completionsExclusive h
  | memory => exact ⟨h.stoppedT, h.stoppedP, h.runningT, h.runningP⟩

theorem AgentEffect.completionsExclusive {s t : State} {a : Agent} (he : AgentEffect s a t) (h : CompletionsExclusive s) :
    CompletionsExclusive t := by
  have hf := he.frame
  cases a with
  | dmaT =>
    rcases he.dmaT_cases with rfl | ⟨k, j, ⟨hactive, hen, -⟩, rfl⟩
    · exact h
    · have hidle := dmaTTransfer_idle_iff (h.tDone_of_active hen hactive) k j
      have hdmaP : (dmaTTransfer k j s).dmaP = s.dmaP := hf .dmaP (by decide)
      have hpDone : (dmaTTransfer k j s).pDone = s.pDone := hf .pDone (by decide)
      exact .of_running ((hf .en (by decide)).trans hen) hidle (by rw [hdmaP, hpDone]; exact h.runningP hen)
  | dmaP =>
    rcases he.dmaP_cases with rfl | ⟨b, j, ⟨hactive, hen, -⟩, rfl⟩
    · exact h
    · have hidle := dmaPTransfer_idle_iff (h.pDone_of_active hen hactive) b j
      have hdmaT : (dmaPTransfer b j s).dmaT = s.dmaT := hf .dmaT (by decide)
      have htDone : (dmaPTransfer b j s).tDone = s.tDone := hf .tDone (by decide)
      exact .of_running ((hf .en (by decide)).trans hen) (by rw [hdmaT, htDone]; exact h.runningT hen) hidle
  | seqT =>
    rcases he.seqT_cases with rfl | ⟨⟨hen, -⟩, rfl⟩
    · exact h
    · exact .of_running hen (by simp [Machine.seqT]) (h.runningP hen)
  | seqP =>
    rcases he.seqP_cases with rfl | ⟨⟨hen, -⟩, rfl⟩
    · exact h
    · exact .of_running (by simpa [Machine.seqP] using hen) (by simpa [Machine.seqP] using h.runningT hen) (by simp [Machine.seqP])
  | hostBus | prodBus | prodLoop =>
    obtain ⟨u, hu, ht⟩ := he.masterEffect (by decide)
    exact (hu.completionsExclusive h).of_frame ht.frame (by decide)
  | tg | pop => exact h.of_frame hf (by decide)

/-! #### The lines (R38, R39, R53) -/

/-- The 16-bit field of a number is no larger than the number. -/
theorem toNat_half_lt {x n : Nat} (h : x < n) : (BitVec.ofNat 16 x).toNat < n := by
  rw [BitVec.toNat_ofNat]
  exact (Nat.mod_le _ _).trans_lt h

theorem bpEnd_le_maxBpEnd (c : Params) (m : Word) : c.bpEnd m ≤ maxBpEnd c := by
  unfold Params.bpEnd maxBpEnd
  cases modeStd m with
  | s0 => exact le_max_left _ _
  | s1 => exact le_max_right _ _

theorem vis_le_maxVis (c : Params) (m : Word) : c.vis m ≤ maxVis c := by
  unfold Params.vis maxVis
  cases modeStd m with
  | s0 => exact le_max_left _ _
  | s1 => exact le_max_right _ _

/-- The next timing line is below BP_END of its mode, or 0 (R210). -/
theorem nextTimingLine_lt {c : Params} (m : Word) (t : Nat) (hpos : 0 < maxBpEnd c) : c.nextTimingLine m t < maxBpEnd c := by
  have hle := bpEnd_le_maxBpEnd c m
  unfold Params.nextTimingLine
  split <;> omega

/-- The next playout line is below VIS of its mode, or 0 (R212). -/
theorem nextPlayoutLine_lt {c : Params} (m : Word) (p : Nat) (hpos : 0 < maxVis c) : c.nextPlayoutLine m p < maxVis c := by
  have hle := vis_le_maxVis c m
  unfold Params.nextPlayoutLine
  split <;> omega

/-- The tag of a finished buffer is a line of the mode (R215). -/
theorem tag_lt_maxVis {c : Params} {m : Word} (hok : c.ok = true) (hm : c.Selectable m) (p : Nat) : (p + 1) % c.vis m < maxVis c := by
  obtain ⟨-, hvis, -⟩ := Params.ok_mode hok hm
  exact (Nat.mod_lt _ hvis).trans_le (vis_le_maxVis c m)

theorem LinesInRange.line {s : State} (h : LinesInRange s) (b : BufId) : (s.buf b).line.toNat < maxVis s.cfg := by
  cases b with
  | buf0 => exact h.line0
  | buf1 => exact h.line1

/-- Line counters and tags stay in range where none is handed over. -/
theorem LinesInRange.of_noHandOver {l : List Field} {s t : State} (h : LinesInRange s) (hf : UnchangedExcept l s t)
    (hl : ∀ f ∈ [Field.cfg, .t, .p], f ∉ l) (hn : NoHandOver s t) : LinesInRange t := by
  have hcfg : t.cfg = s.cfg := hf .cfg (hl _ (by simp))
  have ht : t.t = s.t := hf .t (hl _ (by simp))
  have hp : t.p = s.p := hf .p (hl _ (by simp))
  have hline (b : BufId) : (t.buf b).line.toNat < maxVis t.cfg := by
    rw [(hn b).1, hcfg]
    exact h.line b
  exact ⟨by rw [ht, hcfg]; exact h.t, by rw [hp, hcfg]; exact h.p, hline .buf0, hline .buf1⟩

theorem LinesInRange.seqT {s : State} (h : LinesInRange s) : LinesInRange (Machine.seqT s) :=
  ⟨toNat_half_lt (nextTimingLine_lt _ _ (Nat.zero_lt_of_lt h.t)), h.p, h.line0, h.line1⟩

/-- SEQ_P hands over the finished buffer, and no other, with its new tag (R215). -/
theorem seqP_buf_line (s : State) (b : BufId) : ((seqP s).buf b).line =
    if b = s.pbuf then BitVec.ofNat 16 ((s.cfg.nextPlayoutLine s.mode s.p.toNat + 1) % s.cfg.vis s.mode) else (s.buf b).line := by
  cases b <;> cases hp : s.pbuf <;> simp [seqP, State.buf, State.setBuf, hp]

theorem LinesInRange.seqP {s : State} (h : LinesInRange s) (hok : s.cfg.ok = true) (hm : s.cfg.Selectable s.mode) :
    LinesInRange (Machine.seqP s) := by
  have hcfg : (Machine.seqP s).cfg = s.cfg := unchangedExcept_seqP s .cfg (by decide)
  have ht : (Machine.seqP s).t = s.t := unchangedExcept_seqP s .t (by decide)
  have hp : (Machine.seqP s).p = BitVec.ofNat 16 (s.cfg.nextPlayoutLine s.mode s.p.toNat) := by simp [Machine.seqP]
  have hline (b : BufId) : ((Machine.seqP s).buf b).line.toNat < maxVis (Machine.seqP s).cfg := by
    rw [hcfg, seqP_buf_line]
    split
    · exact toNat_half_lt (tag_lt_maxVis hok hm _)
    · exact h.line b
  refine ⟨by rw [ht, hcfg]; exact h.t, ?_, hline .buf0, hline .buf1⟩
  rw [hp, hcfg]
  exact toNat_half_lt (nextPlayoutLine_lt _ _ (Nat.zero_lt_of_lt h.p))

theorem AgentEffect.linesInRange {s t : State} {a : Agent} (he : AgentEffect s a t) (hok : s.cfg.ok = true)
    (hm : s.cfg.Selectable s.mode) (h : LinesInRange s) : LinesInRange t := by
  cases a with
  | seqT =>
    rcases he.seqT_cases with rfl | ⟨-, rfl⟩
    · exact h
    · exact h.seqT
  | seqP =>
    rcases he.seqP_cases with rfl | ⟨-, rfl⟩
    · exact h
    · exact h.seqP hok hm
  | tg | pop | dmaT | dmaP | hostBus | prodBus | prodLoop =>
    exact h.of_noHandOver he.frame (by decide) (he.noHandOver (by decide))

/-! #### The timing words (R112, R159) -/

theorem TimingWordsLegal.of_frame {l : List Field} {s t : State} (h : TimingWordsLegal s) (hf : UnchangedExcept l s t)
    (hl : ∀ f ∈ [Field.tbuf, .tfifo, .tgCur, .faults], f ∉ l) : TimingWordsLegal t := by
  have htbuf : t.tbuf = s.tbuf := hf .tbuf (hl _ (by simp))
  have htfifo : t.tfifo = s.tfifo := hf .tfifo (hl _ (by simp))
  have htgCur : t.tgCur = s.tgCur := hf .tgCur (hl _ (by simp))
  have hfaults : t.faults = s.faults := hf .faults (hl _ (by simp))
  constructor
  · rw [htbuf]
    exact h.tbuf
  · rw [htfifo]
    exact h.tfifo
  · rw [htgCur]
    exact h.tgCur
  · rw [tgStopped, hfaults]
    exact h.notStopped

/-- Only TW_BAD stops TG (R159). -/
theorem tgStopped_recordFault {s : State} {f : FaultRecord} (hf : f.code ≠ 6) (h : tgStopped s = false) :
    tgStopped { s with faults := recordFault f s.faults } = false := by
  rw [tgStopped_false_iff] at h ⊢
  intro g hg
  rcases (mem_recordFault f g s.faults).mp hg with rfl | hg
  · exact hf
  · exact h g hg

theorem BlockEffect.timingWordsLegal {s t : State} (he : BlockEffect s t) (hok : s.cfg.ok = true) (h : TimingWordsLegal s) :
    TimingWordsLegal t := by
  cases he with
  | nothing => exact h
  | fault f hf => exact ⟨h.tbuf, h.tfifo, h.tgCur, tgStopped_recordFault hf h.notStopped⟩
  | mode v _ => exact ⟨twLegal_build hok v, h.tfifo, h.tgCur, h.notStopped⟩
  | start => exact ⟨h.tbuf, h.tfifo, h.tgCur, h.notStopped⟩
  | clearFlag b | pixel b => exact h.of_frame (unchangedExcept_setBuf s b _) (by decide)

theorem MasterEffect.timingWordsLegal {s t : State} (he : MasterEffect s t) (hok : s.cfg.ok = true) (h : TimingWordsLegal s) :
    TimingWordsLegal t := by
  cases he with
  | block he => exact he.timingWordsLegal hok h
  | memory => exact ⟨h.tbuf, h.tfifo, h.tgCur, h.notStopped⟩

theorem AgentEffect.timingWordsLegal {s t : State} {a : Agent} (he : AgentEffect s a t) (hok : s.cfg.ok = true)
    (h : TimingWordsLegal s) : TimingWordsLegal t := by
  cases a with
  | tg =>
    cases he with
    | stall => exact h
    | periodEnd => exact ⟨h.tbuf, h.tfifo, by simp [tgPeriodEnd], h.notStopped⟩
    | tw w ws _ hhead hlegal =>
      have hrest : ∀ x ∈ ws, twLegal x = true := fun x hx => h.tfifo x (hhead ▸ List.mem_cons_of_mem w hx)
      exact ⟨h.tbuf, hrest, fun x hx => Option.some.inj hx ▸ hlegal, h.notStopped⟩
    | twBad w ws _ hhead hillegal => exact absurd (h.tfifo w (by simp [hhead])) (by simp [hillegal])
    | bus _ ha | memory _ ha => simp at ha
  | dmaT =>
    have hf := he.frame
    rcases he.dmaT_cases with rfl | ⟨k, j, -, rfl⟩
    · exact h
    · have htbuf : (dmaTTransfer k j s).tbuf = s.tbuf := hf .tbuf (by decide)
      have htgCur : (dmaTTransfer k j s).tgCur = s.tgCur := hf .tgCur (by decide)
      have hfaults : (dmaTTransfer k j s).faults = s.faults := hf .faults (by decide)
      refine ⟨by rw [htbuf]; exact h.tbuf, fun w hw => ?_, by rw [htgCur]; exact h.tgCur,
        by rw [tgStopped, hfaults]; exact h.notStopped⟩
      rw [dmaTTransfer_tfifo, List.mem_append, List.mem_singleton] at hw
      rcases hw with hw | rfl
      · exact h.tfifo w hw
      · exact h.tbuf k j
  | hostBus | prodBus | prodLoop =>
    obtain ⟨u, hu, ht⟩ := he.masterEffect (by decide)
    exact (hu.timingWordsLegal hok h).of_frame ht.frame (by decide)
  | pop | dmaP | seqT | seqP => exact h.of_frame he.frame (by decide)

/-! #### Bus memory (assumption 8) -/

theorem SameBlock.mem_eq {s t : State} (h : SameBlock s t) : t.mem = s.mem := by
  obtain ⟨_, _, _, _, rfl⟩ := h
  rfl

theorem BlockEffect.mem_eq {s t : State} (h : BlockEffect s t) : t.mem = s.mem := by
  cases h with
  | clearFlag b | pixel b => exact State.setBuf_mem s b _
  | nothing | fault | mode | start => rfl

theorem MasterEffect.mem_wf {s t : State} (he : MasterEffect s t) (h : Memory.wf s.cfg s.mem = true) : Memory.wf s.cfg t.mem = true := by
  cases he with
  | block he => exact he.mem_eq ▸ h
  | memory x v w hin => exact State.writeMem_wf hin h

/-- Only a bus master writes bus memory. -/
theorem AgentEffect.mem_eq {s t : State} {a : Agent} (he : AgentEffect s a t) (ha : a ∉ masterAgents) : t.mem = s.mem := by
  cases he with
  | dmaT k j => cases j <;> rfl
  | dmaP b j =>
    unfold dmaPTransfer
    split <;> rfl
  | seqP => simp [Machine.seqP]
  | bus _ hport | memory _ hport => rcases hport with rfl | rfl <;> simp at ha
  | prod | prodRelease | prodPair | prodUnmapped => simp at ha
  | stall | periodEnd | tw | twBad | popWait | popBlank | len | pair | seqT => rfl

theorem AgentEffect.mem_wf {s t : State} {a : Agent} (he : AgentEffect s a t) (h : Memory.wf s.cfg s.mem = true) :
    Memory.wf s.cfg t.mem = true := by
  by_cases ha : a ∈ masterAgents
  · obtain ⟨u, hu, ht⟩ := he.masterEffect ha
    exact ht.mem_eq ▸ hu.mem_wf h
  · exact he.mem_eq ha ▸ h

/-! #### The whole -/

/-- A step of an agent keeps the invariant. -/
theorem AgentEffect.inv {s t : State} {a : Agent} (he : AgentEffect s a t) (h : Inv s) : Inv t where
  cfg := he.permanent.cfg ▸ h.cfg
  tables := he.tablesCurrent h.tables
  fifos := he.fifosBounded h.fifos
  completions := he.completionsExclusive h.completions
  lines := he.linesInRange h.cfg h.tables.mode h.lines
  words := he.timingWordsLegal h.cfg h.words
  memory := he.permanent.cfg ▸ he.mem_wf h.memory

/-- The invariant does not speak of the schedule. -/
theorem Inv.withSchedule {s : State} (h : Inv s) (sched : List Agent) (tick : Nat) : Inv { s with sched := sched, tick := tick } where
  cfg := h.cfg
  tables := ⟨h.tables.tbuf, h.tables.palette, h.tables.clut, h.tables.mode⟩
  fifos := ⟨h.fifos.tfifo, h.fifos.pfifo⟩
  completions := ⟨h.completions.stoppedT, h.completions.stoppedP, h.completions.runningT, h.completions.runningP⟩
  lines := ⟨h.lines.t, h.lines.p, h.lines.line0, h.lines.line1⟩
  words := ⟨h.words.tbuf, h.words.tfifo, h.words.tgCur, h.words.notStopped⟩
  memory := h.memory

/-! ### The statements -/

/-- Settles O1: each clause is a field of the reset state. -/
theorem resetGivesTheSpecValues : Obligations.ResetGivesTheSpecValues := by
  refine ⟨rfl, fun c => ?_⟩
  simp [State.resetWith, ScanBuffer.reset]

/-- Settles O2: with EN = 0 no agent of the block is enabled, and an agent that is not enabled stalls. -/
theorem stoppedBlockTakesNoStep : Obligations.StoppedBlockTakesNoStep := by
  intro s a hen ha
  have hnot := not_agentEnabled_of_stopped hen ha
  exact ⟨hnot, agentStep_of_not_enabled hnot⟩

/-- Settles O41: what each agent writes, and the effects of SEQ_T and SEQ_P. -/
theorem onlyTheSequencerAdvancesTheLines : Obligations.OnlyTheSequencerAdvancesTheLines := by
  intro s t h
  obtain ⟨sched, tick, he⟩ := step_effect h
  refine ⟨he.seqT_of_t_ne, he.seqP_of_p_or_clash_ne, fun b hb => by_contra fun hne => ?_, he.seqP_or_stopped_of_pbuf_ne⟩
  obtain ⟨hline, hflag⟩ := he.noHandOver hne b
  rcases hb with hb | ⟨hclear, hset⟩
  · exact hb hline
  · exact Bool.false_ne_true (hclear.symm.trans (hflag hset))

/-- Settles O42: what each agent writes, and what TG and POP do to TRIG. -/
theorem onlyTheUnitsDriveThePins : Obligations.OnlyTheUnitsDriveThePins := by
  intro s t h
  obtain ⟨sched, tick, he⟩ := step_effect h
  refine ⟨?_, ?_, fun hne => ?_⟩
  · rintro (hne | hne | ⟨hclear, hset⟩)
    · exact tg_of_writes_sync (.inl (he.mem_writes hne))
    · exact tg_of_writes_sync (.inr (he.mem_writes hne))
    · exact he.tg_of_trig_set hclear hset
  · rintro (hne | ⟨hset, hclear⟩)
    · exact pop_of_writes_rgb (he.mem_writes hne)
    · exact (he.pop_of_trig_cleared hset hclear).1
  · exact port_of_writes_mode_or_tbuf (hne.imp (he.mem_writes (f := .mode)) (he.mem_writes (f := .tbuf)))

/-- Settles O44: every instruction answers a next state, and none of these fields is among what instructions write. -/
theorem instructionsLeaveBusMemoryAlone : Obligations.InstructionsLeaveBusMemoryAlone := by
  intro i s
  obtain ⟨t, ht, hf⟩ := exec_frame i s
  exact ⟨t, ht, hf .mem (by decide), hf .cfg (by decide), hf .palette (by decide), hf .clut (by decide), hf .t (by decide),
    hf .p (by decide), hf .clash (by decide), hf .tDone (by decide), hf .pDone (by decide), hf .prod (by decide),
    hf .sched (by decide)⟩

/-- Settles O51: LEN and PAIR run on the word that popRaw names; that word and the pairs left are the aligned stream's. -/
theorem popTakesWholeLines : Obligations.PopTakesWholeLines := by
  intro s w ws haligned hen hfifo
  have hne : s.pfifo ≠ [] := by simp [hfifo]
  refine ⟨fun hphase => ?_, fun c hphase => ?_⟩
  · obtain rfl := haligned.head_of_len hphase hfifo
    have hraw : popRaw s = some (.len 319) := by simp only [popRaw, hphase, hfifo]
    have hready := (popLenReady_iff s).mpr ⟨hen, hphase, hne⟩
    exact ⟨rfl, _, (popStep_eq_exec hraw rfl).trans (exec_len_of_ready hready _ _), rfl, congrArg List.tail hfifo⟩
  · have hraw : popRaw s = some (.pair w) := by simp only [popRaw, hphase, hfifo]
    have hready := popPairReady_eq_some hen hphase hne
    exact ⟨(haligned.phase c hphase).2, _, (popStep_eq_exec hraw rfl).trans (exec_pair_of_ready hready _ _ _ _),
      congrArg List.tail hfifo, rfl⟩

/-- Settles O59: only POP's wait step clears TRIG; the blank step leaves it to that step. -/
theorem triggerIsHeldWhilePopIsBusy : Obligations.TriggerIsHeldWhilePopIsBusy := by
  refine ⟨fun s t htrig hphase h => ?_, fun s hen htrig hphase => ?_, fun c s stall => ?_⟩
  · obtain ⟨sched, tick, he⟩ := step_effect h
    exact Bool.of_not_eq_false fun hclear => hphase (he.pop_of_trig_cleared htrig hclear).2
  · exact ⟨_, _, popStep_of_blank hen hphase, rfl, htrig, popStep_of_wait (s := popBlank s) hen rfl htrig, rfl, rfl⟩
  · simp [Params.noTriggerOverrun, Params.popLineCycles, Params.lineCycles]

/-- Settles O49: the pick changes only the schedule, and every effect of the picked agent keeps each part of the invariant. -/
theorem everyStepKeepsTheInvariant : Obligations.EveryStepKeepsTheInvariant := by
  intro s t hinv h
  obtain ⟨sched, tick, he⟩ := step_effect h
  exact he.inv (hinv.withSchedule sched tick)

end Sys2Proof.Machine
end

section
/-! PROOFS. The statements about the bus memory map O32, O33, O37, O38, O43 and O46: which instruction the key of a window's entry decodes
to, what a bus read returns, and what a pixel write stores. -/

namespace Sys2Proof

/-! ### Rows and keys (R86, R126) -/

/-- The place of entry i in a window of words: `4*i`. -/
theorem setWidth_shiftLeft_two {n : Nat} (w : Nat) (i : BitVec n) : i.setWidth w <<< 2 = BitVec.ofNat w (4 * i.toNat) := by
  apply BitVec.eq_of_toNat_eq
  simp [Nat.shiftLeft_eq, Nat.mul_comm]

/-- Any two rows differ in a bit that both masks fix. -/
theorem busTable_apart : ∀ r ∈ busTable, ∀ q ∈ busTable, r.pattern &&& q.mask = q.pattern &&& r.mask → q = r := by decide +kernel

/-- A key hits at most one row. -/
theorem busTable_hits_unique {r q : RowPattern} (hr : r ∈ busTable) (hq : q ∈ busTable) {key : Half}
    (hkr : r.hits key = true) (hkq : q.hits key = true) : q = r := by
  simp only [RowPattern.hits, decide_eq_true_eq] at hkr hkq
  refine busTable_apart r hr q hq ?_
  rw [← hkr, ← hkq, BitVec.and_assoc, BitVec.and_assoc, BitVec.and_comm r.mask]

theorem busRowOf_of_hits {r : RowPattern} (hr : r ∈ busTable) {key : Half} (hkey : r.hits key = true) :
    busRowOf key = some r.row := by
  unfold busRowOf
  cases hfind : busTable.find? fun q => q.hits key with
  | none => exact absurd hkey (List.find?_eq_none.mp hfind r hr)
  | some q =>
    have hkq := List.find?_some hfind
    rw [busTable_hits_unique hr (List.mem_of_find?_eq_some hfind) hkey hkq]
    rfl

/-- A key that hits a row decodes to the row's instruction, if that is well-formed. -/
theorem decode_bus_of_hits {r : RowPattern} (hr : r ∈ busTable) {key : Half} (hkey : r.hits key = true) (data : Word) :
    decode (.bus key data) =
      if (r.row.instr key data).wellFormed then .ok (r.row.instr key data) else .error (.unmapped key) := by
  simp only [decode, decodeBus, busRowOf_of_hits hr hkey]

/-- The bits that a window of 2^n words fixes in its keys: all but the n index bits, from bit 2 up. -/
def windowMask (n : Nat) : Half := ~~~((BitVec.allOnes n).setWidth 16 <<< 2)

theorem windowMask_getLsbD {n j : Nat} (hj : j < 16) : (windowMask n).getLsbD j = decide (j < 2 ∨ n + 2 ≤ j) := by
  rw [windowMask, BitVec.getLsbD_not, BitVec.getLsbD_shiftLeft, BitVec.getLsbD_setWidth, BitVec.getLsbD_allOnes]
  grind

/-- The key of entry i, bit by bit: the index bits are i, the others are the window's. -/
theorem windowKey_getLsbD {n : Nat} {base : Half} (hbase : base &&& windowMask n = base) (i : BitVec n) {j : Nat} (hj : j < 16) :
    (base + BitVec.ofNat 16 (4 * i.toNat)).getLsbD j =
      if j < 2 ∨ n + 2 ≤ j then base.getLsbD j else i.getLsbD (j - 2) := by
  have hfixed : ∀ j < 16, ¬ (j < 2 ∨ n + 2 ≤ j) → base.getLsbD j = false := fun j hj hin => by
    rw [← hbase, BitVec.getLsbD_and, windowMask_getLsbD hj, decide_eq_false hin, Bool.and_false]
  have hindex : ∀ j < 16, (i.setWidth 16 <<< 2).getLsbD j = if j < 2 ∨ n + 2 ≤ j then false else i.getLsbD (j - 2) := by
    intro j hj
    rw [BitVec.getLsbD_shiftLeft, BitVec.getLsbD_setWidth]
    have := i.getLsbD_of_ge (j - 2)
    grind
  have hdisjoint : base &&& (i.setWidth 16 <<< 2) = 0#16 := by
    refine BitVec.eq_of_getLsbD_eq fun j hj => ?_
    rw [BitVec.getLsbD_and, hindex j hj]
    grind
  rw [← setWidth_shiftLeft_two, BitVec.add_eq_or_of_and_eq_zero _ _ hdisjoint, BitVec.getLsbD_or, hindex j hj]
  grind

/-- The key of entry i of a window: its fixed bits are the window's, its index bits are i. -/
theorem windowKey_fields {n : Nat} (hn : n ≤ 14) {base : Half} (hbase : base &&& windowMask n = base) (i : BitVec n) :
    (base + BitVec.ofNat 16 (4 * i.toNat)) &&& windowMask n = base ∧ (base + BitVec.ofNat 16 (4 * i.toNat)).extractLsb' 2 n = i := by
  constructor
  · refine BitVec.eq_of_getLsbD_eq fun j hj => ?_
    have hbit := congrArg (BitVec.getLsbD · j) hbase
    simp only [BitVec.getLsbD_and] at hbit
    rw [BitVec.getLsbD_and, windowKey_getLsbD hbase i hj, windowMask_getLsbD hj, ← hbit, windowMask_getLsbD hj]
    grind
  · refine BitVec.eq_of_getLsbD_eq fun j hj => ?_
    rw [BitVec.getLsbD_extractLsb', windowKey_getLsbD hbase i (by omega)]
    grind

/-- The row has a window of 2^n words with the keys base, base + 4, … -/
abbrev IsWindow (n : Nat) (base : Half) (row : BusRow) : Prop :=
  n ≤ 14 ∧ ⟨windowMask n, base, row⟩ ∈ busTable ∧ base &&& windowMask n = base

/-- A window's row decodes the key of entry i to its instruction with index i, if that is well-formed (R87, R126). -/
theorem decode_windowKey {n : Nat} {base : Half} {row : BusRow} (hrow : IsWindow n base row) {data : Word} {f : BitVec n → Instr}
    (hinstr : ∀ key, row.instr key data = f (key.extractLsb' 2 n)) (i : BitVec n) :
    decode (.bus (base + BitVec.ofNat 16 (4 * i.toNat)) data) =
      if (f i).wellFormed then .ok (f i) else .error (.unmapped (base + BitVec.ofNat 16 (4 * i.toNat))) := by
  obtain ⟨hn, hmem, hbase⟩ := hrow
  obtain ⟨hfixed, hindex⟩ := windowKey_fields hn hbase i
  rw [decode_bus_of_hits hmem (decide_eq_true hfixed), hinstr, hindex]

theorem decode_windowKey_mapped {n : Nat} {base : Half} {row : BusRow} (hrow : IsWindow n base row) {data : Word}
    {f : BitVec n → Instr} (hinstr : ∀ key, row.instr key data = f (key.extractLsb' 2 n)) {i : BitVec n}
    (hi : (f i).wellFormed = true) : decode (.bus (base + BitVec.ofNat 16 (4 * i.toNat)) data) = .ok (f i) := by
  rw [decode_windowKey hrow hinstr, if_pos hi]

theorem decode_windowKey_unmapped {n : Nat} {base : Half} {row : BusRow} (hrow : IsWindow n base row) {data : Word}
    {f : BitVec n → Instr} (hinstr : ∀ key, row.instr key data = f (key.extractLsb' 2 n)) {i : BitVec n}
    (hi : (f i).wellFormed = false) :
    decode (.bus (base + BitVec.ofNat 16 (4 * i.toNat)) data) = .error (.unmapped (base + BitVec.ofNat 16 (4 * i.toNat))) := by
  rw [decode_windowKey hrow hinstr, if_neg (by simp [hi])]

/-! TBUF's index has four bits: the category, then the word. -/

theorem toNat_tbufIndex (k j : BitVec 2) : 4 * (k ++ j).toNat = 16 * k.toNat + 4 * j.toNat := by
  revert k j; decide

/-- The keys of TBUF category 3, for a read and for a write. -/
theorem tbufKey_category3 (j : BitVec 2) :
    0x5030 + BitVec.ofNat 16 (4 * j.toNat) = 0x5000 + BitVec.ofNat 16 (16 * (3 : BitVec 2).toNat + 4 * j.toNat) ∧
    0x5031 + BitVec.ofNat 16 (4 * j.toNat) = 0x5001 + BitVec.ofNat 16 (16 * (3 : BitVec 2).toNat + 4 * j.toNat) := by
  revert j; decide

theorem keyTbufK_eq (key : Half) : keyTbufK key = (key.extractLsb' 2 4).extractLsb' 2 2 :=
  BitVec.eq_of_getLsbD_eq fun j hj => by simp [keyTbufK, hj, show 2 + j < 4 by omega, ← Nat.add_assoc]

theorem keyTbufJ_eq (key : Half) : keyTbufJ key = (key.extractLsb' 2 4).extractLsb' 0 2 :=
  BitVec.eq_of_getLsbD_eq fun j hj => by simp [keyTbufJ, hj, show j < 4 by omega]

theorem tbufIndex_fields (k j : BitVec 2) : (k ++ j).extractLsb' 2 2 = k ∧ (k ++ j).extractLsb' 0 2 = j :=
  ⟨BitVec.extractLsb'_append_eq_left, BitVec.extractLsb'_append_eq_right⟩

/-- A row of the TBUF window decodes the key of TBUF[k][j] to its instruction with k and j, if that is well-formed. -/
theorem decode_tbufKey {base : Half} {row : BusRow} (hrow : IsWindow 4 base row) {data : Word} {f : BitVec 2 → BitVec 2 → Instr}
    (hinstr : ∀ key, row.instr key data = f (keyTbufK key) (keyTbufJ key)) (k j : BitVec 2) :
    decode (.bus (base + BitVec.ofNat 16 (16 * k.toNat + 4 * j.toNat)) data) =
      if (f k j).wellFormed then .ok (f k j)
      else .error (.unmapped (base + BitVec.ofNat 16 (16 * k.toNat + 4 * j.toNat))) := by
  obtain ⟨hk, hj⟩ := tbufIndex_fields k j
  have h := decode_windowKey hrow (f := fun i => f (i.extractLsb' 2 2) (i.extractLsb' 0 2))
    (fun key => by rw [hinstr, keyTbufK_eq, keyTbufJ_eq]) (k ++ j)
  simpa only [toNat_tbufIndex, hk, hj] using h

end Sys2Proof

namespace Sys2Proof.Machine

/-! ### Frames of one port and of one buffer -/

theorem unchangedExcept_setPort (s : State) (m : Master) (p : Port) : UnchangedExcept [portField m] s (s.setPort m p) := by
  intro f hf
  cases m with
  | host =>
    cases f with
    | hostPort => simp [portField] at hf
    | mem => exact fun _ => rfl
    | _ => rfl
  | prod =>
    cases f with
    | prodPort => simp [portField] at hf
    | mem => exact fun _ => rfl
    | _ => rfl

theorem unchangedExcept_setBuf_bufField (s : State) (b : BufId) (x : ScanBuffer) :
    UnchangedExcept [bufField b] s (s.setBuf b x) := by
  intro f hf
  cases b with
  | buf0 =>
    cases f with
    | buf0 => simp [bufField] at hf
    | mem => exact fun _ => rfl
    | _ => rfl
  | buf1 =>
    cases f with
    | buf1 => simp [bufField] at hf
    | mem => exact fun _ => rfl
    | _ => rfl

/-! ### What a bus read returns (R88, R240 to R260) -/

/-- The value a bus read returns; of an instruction that is no read, or has an index of no entry, it says nothing. -/
def readValue (s : State) : Instr → Word
  | .rdMode => s.mode
  | .rdCtrl => ctrlRegister s
  | .rdScanline => scanlineRegister s
  | .rdTimingLine => timingLineRegister s
  | .rdVisLines => visLinesRegister s
  | .rdTextDims => textDimsRegister s
  | .rdFbAddr => s.cfg.gridBase
  | .rdClash => s.clash
  | .rdBuf0Flag => flagRegister s .buf0
  | .rdBuf1Flag => flagRegister s .buf1
  | .rdBuf0Line => lineRegister s .buf0
  | .rdBuf1Line => lineRegister s .buf1
  | .rdBuf0Len => s.buf0.len
  | .rdBuf1Len => s.buf1.len
  | .rdBuf0Pix i => (s.buf0.pixel i.toNat).getD 0
  | .rdBuf1Pix i => (s.buf1.pixel i.toNat).getD 0
  | .rdPalette i => (colourAt s.palette i.toNat).setWidth 32
  | .rdClut i => clutAt s.clut i
  | .rdTbuf k j => ((categoryOfIndex k).map fun c => (s.tbuf.get c).get (slotOfIndex j)).getD 0
  | _ => 0

/-- A pixel index below BUF_PAIRS has its word. -/
theorem ScanBuffer.pixel_of_lt (x : ScanBuffer) {i : Nat} (h : i < bufPairs) : x.pixel i = some (x.pix[i]) := dif_pos h

theorem ScanBuffer.pixel_of_ge (x : ScanBuffer) {i : Nat} (h : bufPairs ≤ i) : x.pixel i = none := dif_neg (Nat.not_lt.mpr h)

/-- A pixel read returns its word (R255). -/
theorem readBufPix_of_lt (b : BufId) {i : BitVec 9} (s : State) (h : i.toNat < bufPairs) :
    readBufPix b i s = .next (s.reply ((s.buf b).pix[i.toNat])) := by
  simp only [readBufPix, ScanBuffer.pixel_of_lt _ h]

theorem readBufPix_of_ge (b : BufId) {i : BitVec 9} (s : State) (h : bufPairs ≤ i.toNat) :
    readBufPix b i s = raiseFault (.unmapped s.master (pixelOffset b i) false) s := by
  simp only [readBufPix, ScanBuffer.pixel_of_ge _ h]

theorem categoryIndexOk_of_ne_three : ∀ k : BitVec 2, k ≠ 3 → categoryIndexOk k = true := by decide

/-- A mapped category index names a category (R35, R86). -/
theorem categoryOfIndex_isSome : ∀ k : BitVec 2, categoryIndexOk k = true → (categoryOfIndex k).isSome = true := by decide

/-- A well-formed bus read answers a next state, in which its value has gone to its bus master and nothing else has changed. -/
theorem exec_read {i : Instr} (hread : isBusRead i = true) (hwf : i.wellFormed = true) (s : State) :
    exec i s = .next (s.reply (readValue s i)) := by
  cases i with
  | rdBuf0Pix i =>
    have hi : i.toNat < bufPairs := of_decide_eq_true hwf
    rw [readValue, ScanBuffer.pixel_of_lt _ hi]
    exact readBufPix_of_lt .buf0 s hi
  | rdBuf1Pix i =>
    have hi : i.toNat < bufPairs := of_decide_eq_true hwf
    rw [readValue, ScanBuffer.pixel_of_lt _ hi]
    exact readBufPix_of_lt .buf1 s hi
  | rdTbuf k j =>
    obtain ⟨c, hc⟩ := Option.isSome_iff_exists.mp (categoryOfIndex_isSome k hwf)
    simp only [exec, execRdTbuf, readValue, hc, Option.map_some, Option.getD_some]
  | rdMode | rdCtrl | rdScanline | rdTimingLine | rdVisLines | rdTextDims | rdFbAddr | rdClash | rdNeedsMemory | rdBuf0Flag
  | rdBuf0Line | rdBuf0Len | rdBuf1Flag | rdBuf1Line | rdBuf1Len | rdPalette | rdClut => rfl
  | _ => simp [isBusRead] at hread

/-- The value a read returns does not depend on what reads have returned. -/
theorem readValue_reply (s : State) (v : Word) (i : Instr) : readValue (s.reply v) i = readValue s i := by
  cases i <;> simp [readValue, ctrlRegister, scanlineRegister, timingLineRegister, visLinesRegister, textDimsRegister, flagRegister,
    lineRegister]

theorem State.reply_reply_self (s : State) (v : Word) : (s.reply v).reply v = s.reply v := by
  cases h : s.master <;> simp [State.reply, State.setPort, State.port, h]

theorem unchangedExcept_reply_portField (s : State) (v : Word) : UnchangedExcept [portField s.master] s (s.reply v) :=
  unchangedExcept_setPort s s.master _

theorem returns_of_exec {i : Instr} {s : State} {v : Word} (h : exec i s = .next (s.reply v)) : Returns i s v :=
  ⟨_, h, State.port_reply_self s v, unchangedExcept_reply_portField s v⟩

theorem returns_readValue {i : Instr} (hread : isBusRead i = true) (hwf : i.wellFormed = true) (s : State) :
    Returns i s (readValue s i) := returns_of_exec (exec_read hread hwf s)

theorem raises_of_exec {i : Instr} {s : State} {f : FaultRecord} (h : exec i s = raiseFault f s) : Raises i s f :=
  ⟨_, h, raised_recordFault f s⟩

/-! ### Pixel reads and writes (R255, R256) -/

theorem pixelOffset_buf0 (i : BitVec 9) : pixelOffset .buf0 i = 0x1000 + BitVec.ofNat 32 (4 * i.toNat) :=
  congrArg (0x1000 + ·) (setWidth_shiftLeft_two 32 i)

theorem pixelOffset_buf1 (i : BitVec 9) : pixelOffset .buf1 i = 0x2000 + BitVec.ofNat 32 (4 * i.toNat) :=
  congrArg (0x2000 + ·) (setWidth_shiftLeft_two 32 i)

theorem tbufOffset_eq (k j : BitVec 2) : tbufOffset k j = 0x5000 + BitVec.ofNat 32 (16 * k.toNat + 4 * j.toNat) := by
  revert k j; decide

theorem tbufOffset_category3 (j : BitVec 2) : 0x5030 + BitVec.ofNat 32 (4 * j.toNat) = tbufOffset 3 j := by
  revert j; decide

@[simp] theorem categoryOfIndex_index (k : Category) : categoryOfIndex k.index = some k := by cases k <;> rfl

@[simp] theorem slotOfIndex_index (j : Slot) : slotOfIndex j.index = j := by cases j <;> rfl

theorem writeBufPix_of_lt (b : BufId) {i : BitVec 9} (v : Word) (s : State) (h : i.toNat < bufPairs) :
    writeBufPix b i v s = .next (s.setBuf b ((s.buf b).setPixel i.toNat v)) := if_pos h

theorem writeBufPix_of_ge (b : BufId) {i : BitVec 9} (v : Word) (s : State) (h : bufPairs ≤ i.toNat) :
    writeBufPix b i v s = raiseFault (.unmapped s.master (pixelOffset b i) true) s := if_neg (Nat.not_lt.mpr h)

/-- A pixel write stores its word at its index and leaves the rest of the buffer and of the state (R256). -/
theorem writeBufPix_stores (b : BufId) {i : BitVec 9} (v : Word) (s : State) (h : i.toNat < bufPairs) :
    ∃ t, writeBufPix b i v s = .next t ∧ (t.buf b).pixel i.toNat = some v ∧
      (∀ j, j ≠ i.toNat → (t.buf b).pixel j = (s.buf b).pixel j) ∧ (t.buf b).flag = (s.buf b).flag ∧
      (t.buf b).line = (s.buf b).line ∧ UnchangedExcept [bufField b] s t := by
  refine ⟨_, writeBufPix_of_lt b v s h, ?_, fun j hj => ?_, ?_, ?_, unchangedExcept_setBuf_bufField s b _⟩
  · rw [State.buf_setBuf_self, ScanBuffer.pixel_setPixel_self _ _ _ h]
  · rw [State.buf_setBuf_self, ScanBuffer.pixel_setPixel_of_ne _ _ hj]
  · rw [State.buf_setBuf_self, ScanBuffer.setPixel_flag]
  · rw [State.buf_setBuf_self, ScanBuffer.setPixel_line]

/-! ### The statements -/

/-- Settles O43: a read's value goes to its bus master and nothing else changes, and the value does not depend on the port. -/
theorem readsHaveNoSideEffects : Obligations.ReadsHaveNoSideEffects := by
  intro i s hread hwf
  refine ⟨_, exec_read hread hwf s, unchangedExcept_reply_portField s _, ?_⟩
  rw [exec_read hread hwf, readValue_reply, State.reply_reply_self]

/-- Settles O32: below BUF_PAIRS the window's key decodes to a well-formed read; from there on the index is unmapped. -/
theorem pixelReads : Obligations.PixelReads := by
  intro s i
  refine ⟨fun hi => ?_, fun hi => ?_⟩
  · have hok : pixelIndexOk i = true := decide_eq_true hi
    exact ⟨decode_windowKey_mapped (row := .rdBuf0Pix) (f := .rdBuf0Pix) (by decide) (fun _ => rfl) hok,
      decode_windowKey_mapped (row := .rdBuf1Pix) (f := .rdBuf1Pix) (by decide) (fun _ => rfl) hok,
      ⟨_, s.buf0.pixel_of_lt hi, returns_of_exec (readBufPix_of_lt .buf0 s hi)⟩,
      ⟨_, s.buf1.pixel_of_lt hi, returns_of_exec (readBufPix_of_lt .buf1 s hi)⟩⟩
  · have hbad : pixelIndexOk i = false := decide_eq_false (Nat.not_lt.mpr hi)
    refine ⟨decode_windowKey_unmapped (row := .rdBuf0Pix) (f := .rdBuf0Pix) (by decide) (fun _ => rfl) hbad,
      decode_windowKey_unmapped (row := .rdBuf1Pix) (f := .rdBuf1Pix) (by decide) (fun _ => rfl) hbad, ?_, ?_⟩
    · rw [← pixelOffset_buf0]
      exact raises_of_exec (readBufPix_of_ge .buf0 s hi)
    · rw [← pixelOffset_buf1]
      exact raises_of_exec (readBufPix_of_ge .buf1 s hi)

/-- Settles O33: every key of the three windows decodes to its read, which returns the entry; category 3 names none. -/
theorem tableReads : Obligations.TableReads := by
  refine ⟨fun s i => ⟨?_, _, returns_readValue rfl rfl s, ?_⟩, fun s i => ⟨?_, ?_⟩, fun s k j => ⟨?_, ?_⟩, fun s j => ⟨?_, ?_⟩⟩
  · exact decode_windowKey_mapped (row := .rdPalette) (f := .rdPalette) (by decide) (fun _ => rfl) rfl
  · rw [readValue, colourAt, dif_pos i.isLt, BitVec.toNat_setWidth_of_le (by decide)]
  · exact decode_windowKey_mapped (row := .rdClut) (f := .rdClut) (by decide) (fun _ => rfl) rfl
  · exact returns_readValue rfl rfl s
  · exact (decode_tbufKey (row := .rdTbuf) (f := .rdTbuf) (by decide) (fun _ => rfl) k.index j.index).trans
      (if_pos (by cases k <;> rfl))
  · refine returns_of_exec ?_
    simp only [exec, execRdTbuf, categoryOfIndex_index, slotOfIndex_index]
  · rw [(tbufKey_category3 j).1]
    exact (decode_tbufKey (row := .rdTbuf) (f := .rdTbuf) (by decide) (fun _ => rfl) 3 j).trans
      (if_neg Bool.false_ne_true)
  · rw [tbufOffset_category3]
    exact raises_of_exec rfl

/-- Settles O37: below BUF_PAIRS the window's key decodes to a write that stores its word; from there on the index is unmapped. -/
theorem pixelWritesStoreOnePair : Obligations.PixelWritesStoreOnePair := by
  intro s i v
  refine ⟨fun hi => ?_, fun hi => ?_⟩
  · have hok : pixelIndexOk i = true := decide_eq_true hi
    exact ⟨decode_windowKey_mapped (row := .wrBuf0Pix) (f := (.wrBuf0Pix · v)) (by decide) (fun _ => rfl) hok,
      decode_windowKey_mapped (row := .wrBuf1Pix) (f := (.wrBuf1Pix · v)) (by decide) (fun _ => rfl) hok,
      writeBufPix_stores .buf0 v s hi, writeBufPix_stores .buf1 v s hi⟩
  · have hbad : pixelIndexOk i = false := decide_eq_false (Nat.not_lt.mpr hi)
    refine ⟨decode_windowKey_unmapped (row := .wrBuf0Pix) (f := (.wrBuf0Pix · v)) (by decide) (fun _ => rfl) hbad,
      decode_windowKey_unmapped (row := .wrBuf1Pix) (f := (.wrBuf1Pix · v)) (by decide) (fun _ => rfl) hbad, ?_, ?_⟩
    · rw [← pixelOffset_buf0]
      exact raises_of_exec (writeBufPix_of_ge .buf0 v s hi)
    · rw [← pixelOffset_buf1]
      exact raises_of_exec (writeBufPix_of_ge .buf1 v s hi)

/-- Settles O38: each row's meaning is the fault itself; an index of the tables' windows gives the register's offset. -/
theorem readOnlyWritesFault : Obligations.ReadOnlyWritesFault := by
  intro s v
  refine ⟨⟨rfl, raises_of_exec rfl⟩, ⟨rfl, raises_of_exec rfl⟩, ⟨rfl, raises_of_exec rfl⟩, ⟨rfl, raises_of_exec rfl⟩,
    ⟨rfl, raises_of_exec rfl⟩, ⟨rfl, raises_of_exec rfl⟩, ⟨rfl, raises_of_exec rfl⟩, ⟨rfl, raises_of_exec rfl⟩,
    ⟨rfl, raises_of_exec rfl⟩, ⟨rfl, raises_of_exec rfl⟩, ⟨rfl, raises_of_exec rfl⟩, fun i => ⟨?_, ?_⟩, fun i => ⟨?_, ?_⟩,
    fun k j hk => ⟨?_, ?_⟩, fun j => ⟨?_, ?_⟩⟩
  · exact decode_windowKey_mapped (row := .wrRoPalette) (f := (.wrRoPalette · v)) (by decide) (fun _ => rfl) rfl
  · rw [← setWidth_shiftLeft_two]
    exact raises_of_exec rfl
  · exact decode_windowKey_mapped (row := .wrRoClut) (f := (.wrRoClut · v)) (by decide) (fun _ => rfl) rfl
  · rw [← setWidth_shiftLeft_two]
    exact raises_of_exec rfl
  · exact (decode_tbufKey (row := .wrRoTbuf) (f := (.wrRoTbuf · · v)) (by decide) (fun _ => rfl) k j).trans
      (if_pos (categoryIndexOk_of_ne_three k hk))
  · obtain ⟨c, hc⟩ := Option.isSome_iff_exists.mp (categoryOfIndex_isSome k (categoryIndexOk_of_ne_three k hk))
    rw [← tbufOffset_eq]
    refine raises_of_exec ?_
    simp only [exec, execWrRoTbuf, hc, writeReadOnly]
  · rw [(tbufKey_category3 j).2]
    exact (decode_tbufKey (row := .wrRoTbuf) (f := (.wrRoTbuf · · v)) (by decide) (fun _ => rfl) 3 j).trans
      (if_neg Bool.false_ne_true)
  · rw [tbufOffset_category3]
    exact raises_of_exec rfl

/-- Settles O46: outside the window the access is an ordinary one, which past the top of the bus space stops. -/
theorem accessPastTheBusSpaceFaults : Obligations.AccessPastTheBusSpaceFaults := by
  intro m a v w write s hout hpast
  have hspace : inBusSpace a.toNat w.bytes = false := decide_eq_false (Nat.not_le.mpr hpast)
  simp only [accessAddress, hout, accessMemory, hspace, Bool.false_eq_true, if_false]

end Sys2Proof.Machine
end

section
/-! PROOFS. The statements about the bus memory map O55, O58 and O60: where the font tables and the grid stand in the bus space, what each
step of PROD's loop does, and what a whole line of it draws. -/

namespace Sys2Proof.Machine

/-! ### Access by address (R80, R83) -/

theorem accessAddress_of_touches {s : State} {a : Word} {w : Width} (h : touchesWindow s.cfg a.toNat w.bytes = true) (m : Master)
    (write : Bool) (data : Word) : accessAddress m a w write data s = accessWindow m (a - s.cfg.vidBase) w write data s := if_pos h

theorem accessWindow_of_not_aligned {w : Width} {offset : Word} (h : w ≠ .word ∨ offset.toNat % 4 ≠ 0) (m : Master) (write : Bool)
    (data : Word) (s : State) : accessWindow m offset w write data s = raiseFault (.badAccess m offset w.bytes) s := if_pos h

/-- The window is word-aligned: an address and its offset are aligned alike. -/
theorem windowOffset_mod_four {c : Params} (hok : c.ok = true) (a : Word) : (a - c.vidBase).toNat % 4 = a.toNat % 4 := by
  have := (Params.ok_window hok).1
  rw [BitVec.toNat_sub]
  omega

/-- Settles O60: the window is word-aligned and of whole words, so an aligned word that touches it lies in it. -/
theorem addressedAccessesReachTheWindow : Obligations.AddressedAccessesReachTheWindow := by
  intro m a data width write s hok hlow hhigh
  have haccess := accessAddress_of_touches (s := s) (decide_eq_true ⟨hlow, hhigh⟩) m write data
  have hmod := windowOffset_mod_four hok a
  obtain ⟨halign, hspace⟩ := Params.ok_window hok
  refine ⟨haccess, fun hbad => ?_, fun hedge => ?_, fun hword ha => ?_⟩
  · rw [haccess, accessWindow_of_not_aligned (by rwa [hmod])]
    exact ⟨_, rfl, raised_recordFault _ s⟩
  · refine or_iff_not_imp_left.mpr fun hword => ?_
    simp only [not_not.mp hword, Width.bytes] at hlow hedge
    omega
  · simp only [hword, Width.bytes] at hlow
    have hge : s.cfg.vidBase.toNat ≤ a.toNat := by omega
    have hoffset : (a - s.cfg.vidBase).toNat = a.toNat - s.cfg.vidBase.toNat := BitVec.toNat_sub_of_le (BitVec.le_def.mpr hge)
    exact ⟨hge, hoffset, hmod.trans ha, by omega⟩

/-! ### The font tables (R80, R121) -/

theorem fontRow_eq_mod (m : Word) (line : Half) : fontRow m line = line.toNat % fontHeight m := by
  unfold fontRow fontHeight
  split
  · exact Nat.and_two_pow_sub_one_eq_mod _ 3
  · exact Nat.and_two_pow_sub_one_eq_mod _ 4

theorem fontHeight_pos (m : Word) : 0 < fontHeight m := by unfold fontHeight; split <;> decide

/-- The font byte of any glyph and line is a byte of the table. -/
theorem fontIndex_lt (m : Word) (glyph : Byte) (line : Half) : fontIndex m glyph (fontRow m line) < 256 * fontHeight m :=
  calc glyph.toNat * fontHeight m + fontRow m line
    _ < glyph.toNat * fontHeight m + fontHeight m := by
      rw [fontRow_eq_mod]
      exact Nat.add_lt_add_left (Nat.mod_lt _ (fontHeight_pos m)) _
    _ = (glyph.toNat + 1) * fontHeight m := (Nat.succ_mul _ _).symm
    _ ≤ 256 * fontHeight m := Nat.mul_le_mul_right _ glyph.isLt

/-- A mode's font is FONT8 or FONT16, at its base. -/
theorem font_cases (c : Params) (m : Word) :
    (modeFont m = true ∧ 256 * fontHeight m = font8Bytes ∧ ∀ i, fontAddress c m i = c.font8Base.toNat + i) ∨
    (modeFont m = false ∧ 256 * fontHeight m = font16Bytes ∧ ∀ i, fontAddress c m i = c.font16Base.toNat + i) := by
  cases hfont : modeFont m <;> simp [fontHeight, fontAddress, hfont]

/-- A font table lies in the bus space and apart from the window. -/
theorem fontAddress_outside {c : Params} (hok : c.ok = true) {m : Word} {i : Nat} (hi : i < 256 * fontHeight m) :
    fontAddress c m i + 1 ≤ 2 ^ 32 ∧
    (fontAddress c m i + 1 ≤ c.vidBase.toNat ∨ c.vidBase.toNat + 0x10000 ≤ fontAddress c m i) := by
  obtain ⟨-, ⟨-, -, hspace8, hspace16⟩, ⟨-, hapart8, hapart16⟩, -⟩ := (Bases.fit_iff _ _).mp (Params.ok_bases hok)
  simp only [windowBytes] at hapart8 hapart16
  rcases font_cases c m with ⟨-, hsize, haddress⟩ | ⟨-, hsize, haddress⟩
  · rw [haddress]; omega
  · rw [haddress]; omega

theorem tableByte_add {n : Nat} (table : Vector Byte n) (base i : Nat) : tableByte table base (base + i) = table[i]? := by
  rw [tableByte, if_pos (Nat.le_add_right base i), Nat.add_sub_cancel_left]

theorem tableByte_outside {n : Nat} (table : Vector Byte n) {base a : Nat} (h : a < base ∨ base + n ≤ a) :
    tableByte table base a = none := by
  unfold tableByte
  split
  · exact Vector.getElem?_eq_none (by omega)
  · rfl

/-- A font table's byte at reset; the two tables are apart. -/
theorem initialByte_fontAddress {c : Params} (hok : c.ok = true) {m : Word} {i : Nat} (hi : i < 256 * fontHeight m) :
    initialByte c (fontAddress c m i) = if modeFont m then c.font8[i]? else c.font16[i]? := by
  obtain ⟨-, -, -, -, -, hapart⟩ := (Bases.fit_iff _ _).mp (Params.ok_bases hok)
  rcases font_cases c m with ⟨hfont, hsize, haddress⟩ | ⟨hfont, hsize, haddress⟩
  · rw [haddress, initialByte, tableByte_add, tableByte_outside (a := c.font8Base.toNat + i) c.font16 (by omega), Option.or_none,
      if_pos hfont]
  · rw [haddress, initialByte, tableByte_add, tableByte_outside (a := c.font16Base.toNat + i) c.font8 (by omega), Option.none_or,
      if_neg (by simp [hfont])]

theorem fontByte_isSome (c : Params) {m : Word} {i : Nat} (hi : i < 256 * fontHeight m) :
    (if modeFont m then c.font8[i]? else c.font16[i]?).isSome = true := by
  rcases font_cases c m with ⟨hfont, hsize, -⟩ | ⟨hfont, hsize, -⟩
  · simp [hfont, show i < font8Bytes by omega]
  · simp [hfont, show i < font16Bytes by omega]

/-- At reset every byte of a font table reads as the parameter's byte (R80, R121). -/
theorem readByte_fontAddress_reset {c : Params} (hok : c.ok = true) {m : Word} {i : Nat} (hi : i < 256 * fontHeight m) :
    some ((State.resetWith c).readByte (fontAddress c m i)) = if modeFont m then c.font8[i]? else c.font16[i]? := by
  obtain ⟨v, hv⟩ := Option.isSome_iff_exists.mp (fontByte_isSome c hi)
  have hread := State.readByte_unlisted (s := State.resetWith c) (a := fontAddress c m i) rfl
  rw [hread, unlistedByte, show (State.resetWith c).cfg = c from rfl, initialByte_fontAddress hok hi, hv, Option.getD_some]

/-! ### PROD's reads of the grid and the fonts (R84, R296, R297) -/

theorem unchangedExcept_prodAt (s : State) (ph : ProdPhase) : UnchangedExcept [.prod] s (s.prodAt ph) := by
  intro f hf
  cases f with
  | prod => simp at hf
  | mem => exact fun _ => rfl
  | _ => rfl

theorem prodLoopStep_readCell {s : State} {job : RenderJob} (h : s.prod = .readCell job)
    (hspace : cellAddress s.cfg job.mode (textRow job.mode job.line) job.col + 2 ≤ 2 ^ 32) :
    prodLoopStep s = .next (s.prodAt (.readFont job
      ((s.readMem (cellAddress s.cfg job.mode (textRow job.mode job.line) job.col) .half).setWidth 16))) := by
  rw [prodLoopStep, h]
  exact if_pos (decide_eq_true hspace)

/-- The address of the font byte that PROD reads for a cell. -/
def glyphAddress (c : Params) (job : RenderJob) (cell : Half) : Nat :=
  fontAddress c job.mode (fontIndex job.mode (cellGlyph cell) (fontRow job.mode job.line))

theorem prodLoopStep_readFont {s : State} {job : RenderJob} {cell : Half} (h : s.prod = .readFont job cell) (hok : s.cfg.ok = true) :
    prodLoopStep s = .next (s.prodAt (.readClut job (cellAttr cell) (s.readByte (glyphAddress s.cfg job cell)) 0)) := by
  rw [prodLoopStep, h]
  exact if_pos (decide_eq_true (fontAddress_outside hok (fontIndex_lt _ _ _)).1)

/-- A bus master's byte written to an address of a font table is a write to memory. -/
theorem accessAddress_fontByte {s : State} (hok : s.cfg.ok = true) {m : Word} {i : Nat} (hi : i < 256 * fontHeight m) (x : Master)
    (v : Word) :
    accessAddress x (BitVec.ofNat 32 (fontAddress s.cfg m i)) .byte true v s = .next (s.writeMem (fontAddress s.cfg m i) v .byte) := by
  obtain ⟨hspace, hwindow⟩ := fontAddress_outside hok hi
  have ha : (BitVec.ofNat 32 (fontAddress s.cfg m i)).toNat = fontAddress s.cfg m i := Nat.mod_eq_of_lt hspace
  have hout : touchesWindow s.cfg (fontAddress s.cfg m i) Width.byte.bytes = false :=
    decide_eq_false (by simp only [Width.bytes]; omega)
  have h := accessAddress_write (w := .byte) (a := BitVec.ofNat 32 (fontAddress s.cfg m i)) (by rw [ha]; exact hout)
    (by rw [ha]; exact hspace) x v
  rwa [ha] at h

/-- Settles O58: a font table is memory outside the window, so PROD's read gets the byte a bus master's write has stored. -/
theorem fontTablesAreBusMemory : Obligations.FontTablesAreBusMemory := by
  refine ⟨fun c m i hok hi => readByte_fontAddress_reset hok hi, fun s x job cell v hok hprod => ?_⟩
  have hi := fontIndex_lt job.mode (cellGlyph cell) job.line
  have hstep := prodLoopStep_readFont (s := s.writeMem (glyphAddress s.cfg job cell) v .byte) hprod hok
  refine ⟨_, _, accessAddress_fontByte hok hi x v, hstep, ?_, fun y hy => ?_,
    (unchangedExcept_writeMem s _ v .byte).trans (unchangedExcept_prodAt _ _)⟩
  · have hread := State.readByte_writeMem_of_inside s (a := glyphAddress s.cfg job cell) (k := 0) v .byte (by decide)
    rw [State.prodAt_prod, State.writeMem_cfg]
    exact congrArg (ProdPhase.readClut job (cellAttr cell) · 0) hread
  · exact State.readByte_writeMem_of_outside s v .byte (Nat.lt_or_gt_of_ne hy)

/-! ### The steps of a render (R293, R295 to R297) -/

theorem unchangedExcept_asProd (s : State) : UnchangedExcept [.master] s (asProd s) := by
  intro f hf
  cases f with
  | master => simp at hf
  | mem => exact fun _ => rfl
  | _ => rfl

/-- A bus read of PROD's loop: the value goes to PROD's port, PROD to its next place. -/
def State.prodReads (s : State) (v : Word) (ph : ProdPhase) : State := ((asProd s).reply v).prodAt ph

/-- What a step of PROD's loop changes beside a buffer. -/
abbrev prodFields : List Field := [.prod, .prodPort, .master]

theorem unchangedExcept_prodReads (s : State) (v : Word) (ph : ProdPhase) : UnchangedExcept prodFields s (s.prodReads v ph) :=
  have hreply : UnchangedExcept [.prodPort] (asProd s) ((asProd s).reply v) := unchangedExcept_reply_portField (asProd s) v
  (((unchangedExcept_asProd s).trans hreply).trans (unchangedExcept_prodAt _ ph)).mono (by decide)

@[simp] theorem State.prodReads_prod (s : State) (v : Word) (ph : ProdPhase) : (s.prodReads v ph).prod = ph := rfl

theorem prodLoopStep_readMode {s : State} {b : BufId} {line : Half} (h : s.prod = .readMode b line) :
    prodLoopStep s = .next (s.prodReads s.mode (renderStart s.cfg b line s.mode)) := by
  rw [prodLoopStep, h]
  rfl

theorem prodLoopStep_readClut {s : State} {job : RenderJob} {a : BitVec 7} {g : Byte} {k : Nat} (h : s.prod = .readClut job a g k) :
    prodLoopStep s = .next (s.prodReads (renderedPair s.clut job.mode a g k)
      (.writePair job a g k (renderedPair s.clut job.mode a g k))) := by
  rw [prodLoopStep, h]
  rfl

/-- The pair is stored at its place in the line, which fits the index of the pixel window. -/
theorem prodLoopStep_writePair {s : State} {job : RenderJob} {a : BitVec 7} {g : Byte} {k : Nat} {v : Word}
    (h : s.prod = .writePair job a g k v) {n : Nat} (hn : pairsPerGlyph job.mode * job.col + k = n) (hlt : n < bufPairs) :
    prodLoopStep s =
      .next (((asProd s).setBuf job.b ((s.buf job.b).setPixel n v)).prodAt (afterPair job a g k)) := by
  have hindex : (BitVec.ofNat 9 n).toNat = n := Nat.mod_eq_of_lt (hlt.trans (by decide))
  rw [prodLoopStep, h]
  simp only [prodWritePair, hn]
  rw [writeBufPix_of_lt _ _ _ (by rwa [hindex]), hindex, State.buf_asProd]
  rfl

/-! ### Steps of PROD's loop in a row -/

theorem prodRun_add (n k : Nat) (s : State) : prodRun (n + k) s = bindNext (prodRun n s) (prodRun k) := by
  induction n generalizing s with
  | zero => rw [Nat.zero_add]; rfl
  | succ n ih =>
    rw [Nat.add_right_comm, prodRun, prodRun]
    cases prodLoopStep s with
    | next t => exact ih t
    | fault | refused => rfl

/-- PROD's loop, no other agent's step between, comes from s to t. -/
def ProdReaches (s t : State) : Prop := ∃ n, prodRun n s = .next t

theorem ProdReaches.trans {s t u : State} (h : ProdReaches s t) (h' : ProdReaches t u) : ProdReaches s u := by
  obtain ⟨n, hn⟩ := h
  obtain ⟨k, hk⟩ := h'
  exact ⟨n + k, by rw [prodRun_add, hn, bindNext_next, hk]⟩

theorem ProdReaches.of_step {s t : State} (h : prodLoopStep s = .next t) : ProdReaches s t := ⟨1, by rw [prodRun, h]; rfl⟩

/-! ### The line in the buffer (R302) -/

/-- The grid cell of column col of the text row of a line. -/
def gridCell (s : State) (m : Word) (line : Half) (col : Nat) : Half :=
  (s.readMem (cellAddress s.cfg m (textRow m line) col) .half).setWidth 16

/-- The glyph row of a cell: its font byte in bus memory. -/
def glyphRow (s : State) (m : Word) (line : Half) (cell : Half) : Byte :=
  s.readByte (fontAddress s.cfg m (fontIndex m (cellGlyph cell) (fontRow m line)))

/-- Pair i of a line, as `render` gives it. -/
def linePair (s : State) (m : Word) (line : Half) (i : Nat) : Word :=
  let cell := gridCell s m line (i / pairsPerGlyph m)
  renderedPair s.clut m (cellAttr cell) (glyphRow s m line cell) (i % pairsPerGlyph m)

theorem render_eq (s : State) (m : Word) (line : Half) :
    render s.cfg s.clut m (fun col => (s.readMem (cellAddress s.cfg m (textRow m line) col) .half).setWidth 16)
        (fun i => s.readByte (fontAddress s.cfg m i)) line =
      if s.cfg.rows m ≤ textRow m line then none else some ((List.range bufPairs).map (linePair s m line)) := rfl

/-- Pair k of the glyph in column col. -/
theorem linePair_of_column (s : State) (m : Word) (line : Half) (col : Nat) {k : Nat} (hk : k < pairsPerGlyph m) :
    linePair s m line (pairsPerGlyph m * col + k) =
      renderedPair s.clut m (cellAttr (gridCell s m line col)) (glyphRow s m line (gridCell s m line col)) k := by
  have hdiv : (pairsPerGlyph m * col + k) / pairsPerGlyph m = col := by
    rw [Nat.mul_add_div (by omega), Nat.div_eq_of_lt hk, Nat.add_zero]
  have hmod : (pairsPerGlyph m * col + k) % pairsPerGlyph m = k := by rw [Nat.mul_add_mod, Nat.mod_eq_of_lt hk]
  simp only [linePair, hdiv, hmod]

theorem pairsPerGlyph_pos (m : Word) : 0 < pairsPerGlyph m := by unfold pairsPerGlyph; split <;> decide

theorem modeColumns_pos (m : Word) : 0 < modeColumns m := by unfold modeColumns; split <;> decide

theorem pairs_of_columns (m : Word) : pairsPerGlyph m * modeColumns m = bufPairs := by
  unfold pairsPerGlyph modeColumns
  split <;> rfl

/-- PROD has drawn the first n pairs of the line into buffer b since s and has come to the place ph: what it has changed, and what the
buffer holds. -/
structure Drawn (s : State) (m : Word) (line : Half) (b : BufId) (n : Nat) (ph : ProdPhase) (t : State) : Prop where
  place : t.prod = ph
  frame : UnchangedExcept [.prod, .prodPort, .master, bufField b] s t
  flag : (t.buf b).flag = (s.buf b).flag
  tag : (t.buf b).line = (s.buf b).line
  pairs : ∀ i < n, (t.buf b).pixel i = some (linePair s m line i)

/-- PROD's job of the line, at column col. -/
abbrev lineJob (b : BufId) (line : Half) (m : Word) (col : Nat) : RenderJob := { b := b, line := line, mode := m, col := col }

/-- PROD's place before pair k of column col, the cell and the glyph row read. -/
abbrev pairPlace (s : State) (b : BufId) (line : Half) (m : Word) (col k : Nat) : ProdPhase :=
  .readClut (lineJob b line m col) (cellAttr (gridCell s m line col)) (glyphRow s m line (gridCell s m line col)) k

/-- PROD's place after the last pair of column col. -/
abbrev columnEnd (b : BufId) (line : Half) (m : Word) (col : Nat) : ProdPhase :=
  if col + 1 < modeColumns m then .readCell (lineJob b line m (col + 1)) else .release b

theorem UnchangedExcept.buf_eq {l : List Field} {s t : State} (h : UnchangedExcept l s t) (b : BufId) (hb : bufField b ∉ l) :
    t.buf b = s.buf b := by
  cases b
  · exact h .buf0 hb
  · exact h .buf1 hb

theorem bufField_notMem_prodFields (b : BufId) : bufField b ∉ prodFields := by cases b <;> decide

theorem State.readMem_congr {s t : State} (h : ∀ a, t.readByte a = s.readByte a) (a : Nat) (w : Width) :
    t.readMem a w = s.readMem a w := by
  cases w <;> simp only [State.readMem, h]

theorem pair_lt_bufPairs {m : Word} {col k : Nat} (hcol : col < modeColumns m) (hk : k < pairsPerGlyph m) :
    pairsPerGlyph m * col + k < bufPairs :=
  calc pairsPerGlyph m * col + k
    _ < pairsPerGlyph m * (col + 1) := Nat.add_lt_add_left hk _
    _ ≤ pairsPerGlyph m * modeColumns m := Nat.mul_le_mul_left _ hcol
    _ = bufPairs := pairs_of_columns m

/-- The cells of a text row below ROWS lie in the bus space (R7, R122). -/
theorem cellAddress_inSpace {c : Params} (hok : c.ok = true) {m : Word} (hm : c.Selectable m) {row col : Nat} (hrow : row < c.rows m)
    (hcol : col < modeColumns m) : cellAddress c m row col + 2 ≤ 2 ^ 32 := by
  obtain ⟨-, hspace⟩ := Params.ok_grid hok
  obtain ⟨-, -, -, -, hrows, hcols⟩ := Params.ok_mode hok hm
  have hcell : row * modeColumns m + col + 1 ≤ c.maxRows * c.maxCols :=
    calc row * modeColumns m + col + 1
      _ ≤ (row + 1) * modeColumns m := by rw [Nat.succ_mul]; omega
      _ ≤ c.maxRows * c.maxCols := Nat.mul_le_mul (hrow.trans_le hrows) hcols
  have hgrid : 2 * c.maxCols * c.maxRows = 2 * (c.maxRows * c.maxCols) := by ring
  unfold cellAddress
  omega

section
variable {s t : State} {m : Word} {line : Half} {b : BufId} {n col k : Nat} {ph : ProdPhase}

/-- A step that leaves the buffers leaves what has been drawn. -/
theorem Drawn.of_frame (h : Drawn s m line b n ph t) {u : State} (hu : UnchangedExcept prodFields t u) :
    Drawn s m line b n u.prod u := by
  have hbuf := hu.buf_eq b (bufField_notMem_prodFields b)
  exact ⟨rfl, (h.frame.trans hu).mono (by simp), hbuf ▸ h.flag, hbuf ▸ h.tag, hbuf ▸ h.pairs⟩

theorem Drawn.prodReads (h : Drawn s m line b n ph t) (v : Word) (ph' : ProdPhase) : Drawn s m line b n ph' (t.prodReads v ph') :=
  h.of_frame (unchangedExcept_prodReads t v ph')

theorem Drawn.prodAt (h : Drawn s m line b n ph t) (ph' : ProdPhase) : Drawn s m line b n ph' (t.prodAt ph') :=
  h.of_frame ((unchangedExcept_prodAt t ph').mono (by simp))

theorem Drawn.refl (s : State) (m : Word) (line : Half) (b : BufId) : Drawn s m line b 0 s.prod s :=
  ⟨rfl, .refl _ s, rfl, rfl, fun i hi => absurd hi (Nat.not_lt_zero i)⟩

/-- The next pair written. -/
theorem Drawn.write (h : Drawn s m line b n ph t) (hn : n < bufPairs) (ph' : ProdPhase) :
    Drawn s m line b (n + 1) ph' (((asProd t).setBuf b ((t.buf b).setPixel n (linePair s m line n))).prodAt ph') where
  place := rfl
  frame := (h.frame.trans (((unchangedExcept_asProd t).trans (unchangedExcept_setBuf_bufField (asProd t) b _)).trans
    (unchangedExcept_prodAt _ ph'))).mono (by simp)
  flag := by rw [State.buf_prodAt, State.buf_setBuf_self, ScanBuffer.setPixel_flag, h.flag]
  tag := by rw [State.buf_prodAt, State.buf_setBuf_self, ScanBuffer.setPixel_line, h.tag]
  pairs i hi := by
    rw [State.buf_prodAt, State.buf_setBuf_self]
    by_cases hin : i = n
    · rw [hin, ScanBuffer.pixel_setPixel_self _ _ _ hn]
    · rw [ScanBuffer.pixel_setPixel_of_ne _ _ hin, h.pairs i (by omega)]

/-- What PROD's loop reads is as it was. -/
theorem Drawn.same (h : Drawn s m line b n ph t) {f : Field} (hf : f ∉ [Field.prod, .prodPort, .master, .buf0, .buf1]) : f.same s t :=
  h.frame.mono (by cases b <;> decide) f hf

/-- Two steps draw one pair: the CLUT entry is read, the pair is written (R296, R297). -/
theorem Drawn.pair (h : Drawn s m line b n (pairPlace s b line m col k) t) (hn : pairsPerGlyph m * col + k = n)
    (hk : k < pairsPerGlyph m) (hcol : col < modeColumns m) :
    ∃ u, ProdReaches t u ∧ Drawn s m line b (n + 1)
      (afterPair (lineJob b line m col) (cellAttr (gridCell s m line col)) (glyphRow s m line (gridCell s m line col)) k) u := by
  have hlt : n < bufPairs := hn ▸ pair_lt_bufPairs hcol hk
  have hread := prodLoopStep_readClut h.place
  have hclut : t.clut = s.clut := h.same (f := .clut) (by decide)
  rw [hclut, ← linePair_of_column s m line col hk, hn] at hread
  have hwrite := prodLoopStep_writePair (State.prodReads_prod t (linePair s m line n) (.writePair (lineJob b line m col)
    (cellAttr (gridCell s m line col)) (glyphRow s m line (gridCell s m line col)) k (linePair s m line n))) hn hlt
  exact ⟨_, (ProdReaches.of_step hread).trans (.of_step hwrite), (h.prodReads _ _).write hlt _⟩

/-- The rest of a glyph, r pairs and one. -/
theorem Drawn.glyph {r : Nat} (h : Drawn s m line b n (pairPlace s b line m col k) t) (hn : pairsPerGlyph m * col + k = n)
    (hr : k + r + 1 = pairsPerGlyph m) (hcol : col < modeColumns m) :
    ∃ u, ProdReaches t u ∧ Drawn s m line b (pairsPerGlyph m * (col + 1)) (columnEnd b line m col) u := by
  induction r generalizing k n t with
  | zero =>
    obtain ⟨u, hreach, hu⟩ := h.pair hn (by omega) hcol
    have hend : n + 1 = pairsPerGlyph m * (col + 1) := by rw [Nat.mul_succ]; omega
    rw [afterPair, if_neg (by simp only; omega), hend] at hu
    exact ⟨u, hreach, hu⟩
  | succ r ih =>
    obtain ⟨u, hreach, hu⟩ := h.pair hn (by omega) hcol
    rw [afterPair, if_pos (by simp only; omega)] at hu
    obtain ⟨u', hreach', hu'⟩ := ih hu (by omega) (by omega)
    exact ⟨u', hreach.trans hreach', hu'⟩

/-- Two steps read the cell and the font byte of a column (R296, R297). -/
theorem Drawn.cell (h : Drawn s m line b n (.readCell (lineJob b line m col)) t) (hok : s.cfg.ok = true) (hm : s.cfg.Selectable m)
    (hrow : textRow m line < s.cfg.rows m) (hcol : col < modeColumns m) :
    ∃ u, ProdReaches t u ∧ Drawn s m line b n (pairPlace s b line m col 0) u := by
  have hcfg : t.cfg = s.cfg := h.same (f := .cfg) (by decide)
  have hmem : ∀ a, t.readByte a = s.readByte a := h.same (f := .mem) (by decide)
  have hcell := prodLoopStep_readCell h.place (by rw [hcfg]; exact cellAddress_inSpace hok hm hrow hcol)
  rw [hcfg, State.readMem_congr hmem] at hcell
  have hfont := prodLoopStep_readFont (State.prodAt_prod t (.readFont (lineJob b line m col) (gridCell s m line col)))
    (by rwa [State.prodAt_cfg, hcfg])
  have hbyte : ∀ ph a, (t.prodAt ph).readByte a = s.readByte a := fun _ => hmem
  rw [State.prodAt_cfg, hcfg, hbyte] at hfont
  exact ⟨_, (ProdReaches.of_step hcell).trans (.of_step hfont), (h.prodAt _).prodAt _⟩

/-- A column: its cell and font byte, then its pairs. -/
theorem Drawn.column (h : Drawn s m line b (pairsPerGlyph m * col) (.readCell (lineJob b line m col)) t) (hok : s.cfg.ok = true)
    (hm : s.cfg.Selectable m) (hrow : textRow m line < s.cfg.rows m) (hcol : col < modeColumns m) :
    ∃ u, ProdReaches t u ∧ Drawn s m line b (pairsPerGlyph m * (col + 1)) (columnEnd b line m col) u := by
  have hpos := pairsPerGlyph_pos m
  obtain ⟨u, hreach, hu⟩ := h.cell hok hm hrow hcol
  obtain ⟨u', hreach', hu'⟩ := hu.glyph (r := pairsPerGlyph m - 1) rfl (by omega) hcol
  exact ⟨u', hreach.trans hreach', hu'⟩

/-- The rest of a line, r columns and one. -/
theorem Drawn.columns {r : Nat} (h : Drawn s m line b (pairsPerGlyph m * col) (.readCell (lineJob b line m col)) t)
    (hok : s.cfg.ok = true) (hm : s.cfg.Selectable m) (hrow : textRow m line < s.cfg.rows m) (hr : col + r + 1 = modeColumns m) :
    ∃ u, ProdReaches t u ∧ Drawn s m line b bufPairs (.release b) u := by
  induction r generalizing col t with
  | zero =>
    obtain ⟨u, hreach, hu⟩ := h.column hok hm hrow (by omega)
    rw [columnEnd, if_neg (by omega), show col + 1 = modeColumns m from hr, pairs_of_columns] at hu
    exact ⟨u, hreach, hu⟩
  | succ r ih =>
    obtain ⟨u, hreach, hu⟩ := h.column hok hm hrow (by omega)
    rw [columnEnd, if_pos (by omega)] at hu
    obtain ⟨u', hreach', hu'⟩ := ih hu (by omega)
    exact ⟨u', hreach.trans hreach', hu'⟩

/-- From the read of MODE, with a text row below ROWS, PROD draws the whole line and comes to the release. -/
theorem prodReaches_drawn (hok : s.cfg.ok = true) (hm : s.cfg.Selectable s.mode) (hprod : s.prod = .readMode b line)
    (hrow : textRow s.mode line < s.cfg.rows s.mode) : ∃ u, ProdReaches s u ∧ Drawn s s.mode line b bufPairs (.release b) u := by
  have hstep := prodLoopStep_readMode hprod
  rw [renderStart, if_neg (Nat.not_le.mpr hrow)] at hstep
  have hpos := modeColumns_pos s.mode
  have hdrawn := (Drawn.refl s s.mode line b).prodReads s.mode (.readCell (lineJob b line s.mode 0))
  obtain ⟨u, hreach, hu⟩ := Drawn.columns (col := 0) (r := modeColumns s.mode - 1) hdrawn hok hm hrow (by omega)
  exact ⟨u, (ProdReaches.of_step hstep).trans hreach, hu⟩

end

/-! ### The line bit by bit (R121, R122, R290, R296, R297) -/

theorem colourPair_left (c0 c1 : Colour) : (colourPair c0 c1).extractLsb' 0 12 = c0 := by
  refine BitVec.eq_of_getLsbD_eq fun j hj => ?_
  simp [colourPair, hj, show j < 16 by omega, show j < 32 by omega]

theorem colourPair_right (c0 c1 : Colour) : (colourPair c0 c1).extractLsb' 16 12 = c1 := by
  refine BitVec.eq_of_getLsbD_eq fun j hj => ?_
  simp [colourPair, hj, show 16 + j < 32 by omega, BitVec.getLsbD_of_ge c0 (16 + j) (by omega)]

/-- Entry `{a, p}` of the CLUT (R120, R290). -/
theorem clutAt_buildClut (palette : Vector Colour 256) (a : BitVec 7) (p : BitVec 2) :
    clutAt (buildClut palette) (clutIndex a p) = clutEntry palette a p := by
  have hattr : (clutIndex a p).extractLsb' 2 7 = a := BitVec.extractLsb'_append_eq_left
  have hpattern : (clutIndex a p).extractLsb' 0 2 = p := BitVec.extractLsb'_append_eq_right
  have hi : BitVec.ofNat 9 (clutIndex a p).toNat = clutIndex a p := BitVec.ofNat_toNat _ _
  simp only [clutAt, buildClut, Vector.getElem_mk, List.getElem_toArray, List.getElem_map, List.getElem_range, hi, hattr, hpattern]

theorem cellGlyph_append (hi lo : Byte) : cellGlyph (hi ++ lo) = lo := BitVec.extractLsb'_append_eq_right

/-- The low seven bits of the cell's high byte (R119, R122). -/
theorem cellAttr_append (hi lo : Byte) : cellAttr (hi ++ lo) = hi.extractLsb' 0 7 :=
  BitVec.extractLsb'_append_eq_of_le (w := 8) (Nat.le_refl 8)

/-- The palette's colour of a set or clear pixel, by the high byte of its cell: FG is bits 3:0, BG bits 6:4 (R119, R290). -/
def attrColour (palette : Vector Colour 256) (attr : Byte) (set : Bool) : Option Colour :=
  palette[if set then attr.toNat % 16 else attr.toNat / 16 % 8]?

theorem attrColour_eq_pixelColour (palette : Vector Colour 256) (hi lo : Byte) (set : Bool) :
    attrColour palette hi set = some (pixelColour palette (cellAttr (hi ++ lo)) set) := by
  have hfg : (attrFg (cellAttr (hi ++ lo))).toNat = hi.toNat % 16 := by
    rw [cellAttr_append, attrFg, BitVec.extractLsb'_toNat, BitVec.extractLsb'_toNat]
    simp only [Nat.shiftRight_zero]
    omega
  have hbg : (attrBg (cellAttr (hi ++ lo))).toNat = hi.toNat / 16 % 8 := by
    rw [cellAttr_append, attrBg, BitVec.extractLsb'_toNat, BitVec.extractLsb'_toNat]
    simp only [Nat.shiftRight_eq_div_pow]
    omega
  cases set with
  | true => simp [attrColour, pixelColour, colourAt, hfg, show hi.toNat % 16 < 256 by omega]
  | false => simp [attrColour, pixelColour, colourAt, hbg, show hi.toNat / 16 % 8 < 256 by omega]

/-- A cell is its high byte, then the glyph's (R82, R122). -/
theorem gridCell_eq (s : State) (m : Word) (line : Half) (col : Nat) :
    gridCell s m line col =
      s.readByte (cellAddress s.cfg m (textRow m line) col + 1) ++ s.readByte (cellAddress s.cfg m (textRow m line) col) := by
  rw [gridCell, State.readMem, BitVec.setWidth_setWidth_of_le _ (by decide), BitVec.setWidth_eq]

theorem textRow_eq_div (m : Word) (line : Half) : textRow m line = line.toNat / fontHeight m := by
  unfold textRow fontShift fontHeight
  split <;> exact Nat.shiftRight_eq_div_pow _ _

/-- The bits of pattern k: bits 7-2k and 6-2k of the glyph row in 80 columns (R121), bit 7-k twice in 40 (R297). -/
theorem fontPattern_getLsbD (g : Byte) {k : Nat} (hk : k < 4) :
    (fontPattern g k).getLsbD 1 = g.getLsbD (7 - 2 * k) ∧ (fontPattern g k).getLsbD 0 = g.getLsbD (6 - 2 * k) := by
  simp [fontPattern, show 6 - 2 * k + 1 = 7 - 2 * k by omega]

theorem fontDouble_getLsbD (g : Byte) (k : Nat) :
    (fontDouble g k).getLsbD 1 = g.getLsbD (7 - k) ∧ (fontDouble g k).getLsbD 0 = g.getLsbD (7 - k) := by
  unfold fontDouble
  cases g.getLsbD (7 - k) <;> decide

/-- The two pixels of a pair of a cell, in a CLUT that is the build of the palette. -/
theorem renderedPair_pixels (palette : Vector Colour 256) (m : Word) (hi lo g : Byte) (k : Nat) :
    attrColour palette hi ((glyphPattern m g k).getLsbD 1) =
      some ((renderedPair (buildClut palette) m (cellAttr (hi ++ lo)) g k).extractLsb' 0 12) ∧
    attrColour palette hi ((glyphPattern m g k).getLsbD 0) =
      some ((renderedPair (buildClut palette) m (cellAttr (hi ++ lo)) g k).extractLsb' 16 12) := by
  rw [renderedPair, clutAt_buildClut, clutEntry, colourPair_left, colourPair_right]
  exact ⟨attrColour_eq_pixelColour palette hi lo _, attrColour_eq_pixelColour palette hi lo _⟩

/-- A mode has 80 columns of 4 pairs by the glyph row's two-bit patterns, or 40 columns of 8 pairs by its single bits (R296, R297). -/
theorem columns_cases (m : Word) :
    (modeColumns m = 80 ∧ pairsPerGlyph m = 4 ∧ ∀ g k, glyphPattern m g k = fontPattern g k) ∨
    (modeColumns m = 40 ∧ pairsPerGlyph m = 8 ∧ ∀ g k, glyphPattern m g k = fontDouble g k) := by
  cases hcols : modeCols m <;> simp [modeColumns, pairsPerGlyph, glyphPattern, hcols]

/-- A drawn pair of a column, by the bytes of its cell, its glyph row g and the pattern of g. -/
theorem Drawn.pixels {s t : State} {m : Word} {line : Half} {b : BufId} {ph : ProdPhase} (h : Drawn s m line b bufPairs ph t)
    (hclut : s.clut = buildClut s.palette) {col k cell : Nat} {g : Byte} (hcol : col < modeColumns m) (hk : k < pairsPerGlyph m)
    (hcell : cellAddress s.cfg m (line.toNat / fontHeight m) col = cell)
    (hg : s.readByte (fontAddress s.cfg m ((s.readByte cell).toNat * fontHeight m + line.toNat % fontHeight m)) = g) :
    ∃ w, (t.buf b).pixel (pairsPerGlyph m * col + k) = some w ∧
      attrColour s.palette (s.readByte (cell + 1)) ((glyphPattern m g k).getLsbD 1) = some (w.extractLsb' 0 12) ∧
      attrColour s.palette (s.readByte (cell + 1)) ((glyphPattern m g k).getLsbD 0) = some (w.extractLsb' 16 12) := by
  have hpixel := h.pairs _ (pair_lt_bufPairs hcol hk)
  have hgrid : gridCell s m line col = s.readByte (cell + 1) ++ s.readByte cell := by rw [gridCell_eq, textRow_eq_div, hcell]
  have hrow : glyphRow s m line (gridCell s m line col) = g := by
    rw [hgrid, glyphRow, cellGlyph_append, fontRow_eq_mod]
    exact hg
  rw [linePair_of_column s m line col hk, hrow, hgrid, hclut] at hpixel
  exact ⟨_, hpixel, renderedPair_pixels s.palette m _ _ g k⟩

/-- Settles O55: without a text row the loop goes to the release at once; with one it draws `linePair` at every index, which is what
`render` gives, and whose two pixels are the palette's at the bits of the glyph row. -/
theorem producerRendersTheLine : Obligations.ProducerRendersTheLine := by
  intro s b line hok hm hprod
  have hrender := render_eq s s.mode line
  by_cases hrow : s.cfg.rows s.mode ≤ textRow s.mode line
  · have hstep := prodLoopStep_readMode hprod
    rw [renderStart, if_pos hrow] at hstep
    rw [if_pos hrow] at hrender
    obtain ⟨n, hn⟩ := ProdReaches.of_step hstep
    have hframe := unchangedExcept_prodReads s s.mode (.release b)
    have hbuf := hframe.buf_eq b (bufField_notMem_prodFields b)
    refine ⟨n, _, hn, rfl, ?_, ?_, congrArg ScanBuffer.flag hbuf, congrArg ScanBuffer.line hbuf, hframe.mono (by simp)⟩
    · rw [hrender]
      exact congrArg ScanBuffer.pix hbuf
    · intro _ fontH cols fontBase hlt
      rw [textRow_eq_div] at hrow
      exact absurd hrow (Nat.not_le.mpr hlt)
  · obtain ⟨t, ⟨n, hn⟩, ht⟩ := prodReaches_drawn hok hm hprod (Nat.not_le.mp hrow)
    rw [if_neg hrow] at hrender
    refine ⟨n, t, hn, ht.place, ?_, ?_, ht.flag, ht.tag, ht.frame⟩
    · rw [hrender]
      refine ⟨by simp, fun i hi => ?_⟩
      rw [ht.pairs i hi]
      simp [hi]
    · intro hclut fontH cols fontBase hlt c hc cell glyph attr g colour
      have hcols : modeColumns s.mode = cols := rfl
      have hpixels := fun k hk => ht.pixels hclut (k := k) (cell := cell) (g := g) hc hk rfl rfl
      rcases columns_cases s.mode with ⟨h80, hpairs, hpattern⟩ | ⟨h40, hpairs, hpattern⟩
      · refine ⟨fun _ k hk => ?_, fun h => absurd (h.symm.trans (hcols.symm.trans h80)) (by decide)⟩
        obtain ⟨hleft, hright⟩ := fontPattern_getLsbD g hk
        have hpixel := hpixels k (hpairs ▸ hk)
        rw [hpairs, hpattern, hleft, hright] at hpixel
        exact hpixel
      · refine ⟨fun h => absurd (h.symm.trans (hcols.symm.trans h40)) (by decide), fun _ k hk => ?_⟩
        obtain ⟨hleft, hright⟩ := fontDouble_getLsbD g k
        have hpixel := hpixels k (hpairs ▸ hk)
        rw [hpairs, hpattern, hleft, hright] at hpixel
        exact hpixel

end Sys2Proof.Machine
end

section
/-! PROOFS. The statements about the encoding O3, O4, O5, O6 and O9: a window's key and its fields, the row of the table that an instruction
belongs to, decoding what was encoded and encoding what was decoded, and the step of a port. -/

namespace Sys2Proof

/-! ### Keys from their fields (R86, R126) -/

/-- A key is its row's fixed bits and its index. -/
theorem windowKey_of_fixed {n : Nat} {base key : Half} (h : key &&& windowMask n = base) :
    windowKey base ((key.extractLsb' 2 n).setWidth 16) = key := by
  refine BitVec.eq_of_getLsbD_eq fun j hj => ?_
  rw [windowKey, ← h, BitVec.getLsbD_or, BitVec.getLsbD_and, windowMask_getLsbD hj, BitVec.getLsbD_shiftLeft,
    BitVec.getLsbD_setWidth, BitVec.getLsbD_extractLsb']
  by_cases hlow : j < 2
  · simp [hlow]
  · by_cases hhigh : n + 2 ≤ j
    · simp [hlow, hhigh, show ¬ j - 2 < n by omega]
    · simp [hlow, hhigh, hj, show j - 2 < n by omega, show j - 2 < 16 by omega, show 2 + (j - 2) = j by omega]

/-- The key with its index put in is the key counted in words from the window's base. -/
theorem windowKey_eq_add {n : Nat} (hn : n ≤ 14) {base : Half} (hbase : base &&& windowMask n = base) (i : BitVec n) :
    windowKey base (i.setWidth 16) = base + BitVec.ofNat 16 (4 * i.toNat) := by
  obtain ⟨hfixed, hindex⟩ := windowKey_fields hn hbase i
  simpa only [hindex] using windowKey_of_fixed hfixed

/-- TBUF is a window with a four-bit index, the category before the word. -/
theorem tbufKey_eq_windowKey (base : Half) (k j : BitVec 2) : tbufKey base k j = windowKey base ((k ++ j).setWidth 16) := by
  have hindex : ∀ k j : BitVec 2, k.setWidth 16 <<< 4 ||| j.setWidth 16 <<< 2 = ((k ++ j).setWidth 16 <<< 2 : Half) := by decide
  rw [tbufKey, windowKey, BitVec.or_assoc, hindex]

theorem keyTbuf_append (key : Half) : keyTbufK key ++ keyTbufJ key = key.extractLsb' 2 4 :=
  BitVec.extractLsb'_append_extractLsb'_eq_extractLsb' rfl

theorem tbufKey_of_fixed {base key : Half} (h : key &&& windowMask 4 = base) :
    tbufKey base (keyTbufK key) (keyTbufJ key) = key := by
  rw [tbufKey_eq_windowKey, keyTbuf_append, windowKey_of_fixed h]

/-- A row that fixes every bit matches its own key only. -/
theorem key_of_all_fixed {base key : Half} (h : key &&& 0xFFFF = base) : base = key :=
  h.symm.trans (BitVec.and_allOnes (x := key))

/-! ### Decoding an encoded instruction -/

theorem decode_encoded_window {n : Nat} {base : Half} {row : BusRow} (hrow : IsWindow n base row) {data : Word} {f : BitVec n → Instr}
    (hinstr : ∀ key, row.instr key data = f (key.extractLsb' 2 n)) {i : BitVec n} (hi : (f i).wellFormed = true) :
    decode (.bus (windowKey base (i.setWidth 16)) data) = .ok (f i) := by
  rw [windowKey_eq_add hrow.1 hrow.2.2]
  exact decode_windowKey_mapped hrow hinstr hi

theorem decode_encoded_tbuf {base : Half} {row : BusRow} (hrow : IsWindow 4 base row) {data : Word} {f : BitVec 2 → BitVec 2 → Instr}
    (hinstr : ∀ key, row.instr key data = f (keyTbufK key) (keyTbufJ key)) {k j : BitVec 2} (hi : (f k j).wellFormed = true) :
    decode (.bus (tbufKey base k j) data) = .ok (f k j) := by
  rw [tbufKey_eq_windowKey, windowKey_eq_add hrow.1 hrow.2.2, toNat_tbufIndex, decode_tbufKey hrow hinstr, if_pos hi]

/-! ### Encoding a decoded instruction -/

/-- The entry of the opcode table with the given row. -/
def BusRow.entry (row : BusRow) : RowPattern := (busTable.find? fun r => decide (r.row = row)).getD ⟨0, 0, row⟩

theorem entry_row : ∀ r ∈ busTable, r.row.entry = r := by decide +kernel

theorem hits_of_busRowOf {key : Half} {row : BusRow} (h : busRowOf key = some row) : row.entry.hits key = true := by
  obtain ⟨r, hfind, rfl⟩ := Option.map_eq_some_iff.mp h
  have hhits := List.find?_some hfind
  rwa [entry_row r (List.mem_of_find?_eq_some hfind)]

/-- What a bus key decodes to is the instruction of a row that the key matches. -/
theorem decode_bus_eq_ok {key : Half} {data : Word} {i : Instr} (h : decode (.bus key data) = .ok i) :
    ∃ row : BusRow, row.entry.hits key = true ∧ i = row.instr key data := by
  simp only [decode, decodeBus] at h
  split at h
  · simp at h
  · rename_i row hrow
    split at h
    · injection h with h
      exact ⟨row, hits_of_busRowOf hrow, h.symm⟩
    · simp at h

/-- A row's instruction encodes as the key it was taken from: a window's row puts the index back, every other row fixes the whole key. -/
theorem encode_instr_of_hits {key : Half} {row : BusRow} (h : row.entry.hits key = true) (data : Word) :
    encode (row.instr key data) = .bus key (if Machine.isBusRead (row.instr key data) then 0 else data) := by
  have hfixed : key &&& row.entry.mask = row.entry.pattern := of_decide_eq_true h
  cases row with
  | rdBuf0Pix | rdBuf1Pix | rdClut => exact congrArg (Raw.bus · 0) (windowKey_of_fixed (n := 9) hfixed)
  | wrBuf0Pix | wrBuf1Pix | wrRoClut => exact congrArg (Raw.bus · data) (windowKey_of_fixed (n := 9) hfixed)
  | rdPalette => exact congrArg (Raw.bus · 0) (windowKey_of_fixed (n := 8) hfixed)
  | wrRoPalette => exact congrArg (Raw.bus · data) (windowKey_of_fixed (n := 8) hfixed)
  | rdTbuf => exact congrArg (Raw.bus · 0) (tbufKey_of_fixed hfixed)
  | wrRoTbuf => exact congrArg (Raw.bus · data) (tbufKey_of_fixed hfixed)
  | _ => exact congrArg (Raw.bus · _) (key_of_all_fixed hfixed)

theorem decode_tw_eq_ok {w : Word} {i : Instr} (h : decode (.tw w) = .ok i) :
    twReserved w = 0 ∧ i = .tw (twHs w) (twVs w) (twTrig w) (twPeriod w) := by
  simp only [decode, decodeTw] at h
  split at h
  · rename_i hres
    injection h with h
    exact ⟨hres, h.symm⟩
  · simp at h

end Sys2Proof

namespace Sys2Proof.Machine

/-! ### A bus master's operation (R126, R240) -/

/-- A word-aligned 32-bit access inside the window runs what its key decodes to, its bus master named. -/
theorem accessWindow_of_decode {offset data : Word} {write : Bool} {i : Instr} (halign : offset.toNat % 4 = 0)
    (hin : offset.toNat < 0x10000) (hdec : decode (.bus (busKey offset write) data) = .ok i) (m : Master) (s : State) :
    accessWindow m offset .word write data s = exec i { s with master := m } := by
  rw [accessWindow, if_neg (by simp [halign]), if_neg (Nat.not_le.mpr hin), hdec]

/-- An offset inside the window, added to VID_BASE, touches it: the window ends inside the bus space. -/
theorem touchesWindow_offset {c : Params} (hok : c.ok = true) {offset : Word} (hin : offset.toNat < 0x10000) :
    touchesWindow c (c.vidBase + offset).toNat Width.word.bytes = true := by
  obtain ⟨-, hspace⟩ := Params.ok_window hok
  have haddr : (c.vidBase + offset).toNat = c.vidBase.toNat + offset.toNat := BitVec.toNat_add_of_lt (by omega)
  rw [touchesWindow, haddr, Width.bytes]
  exact decide_eq_true ⟨by omega, by omega⟩

theorem agentStep_portAgent (m : Master) (s : State) : agentStep (portAgent m) s = portStep m s := by cases m <;> rfl

theorem portStep_of_cons {m : Master} {s : State} {r : Request} {rs : List Request} (h : (s.port m).requests = r :: rs) :
    portStep m s = serveRequest m r rs s := by
  simp only [portStep, h]

/-! ### The statements -/

/-- Settles O4: TW, LEN and PAIR give their fields back, a window's key its index, and every other key stands in the table. -/
theorem decodeOfEncodeIsTheInstruction : Obligations.DecodeOfEncodeIsTheInstruction := by
  intro i hwf
  cases i with
  | tw hs vs trig period => simp [encode, decode, decodeTw]
  | len n ign => simp [encode, decode]
  | pair pix0 ignLo pix1 ignHi => simp [encode, decode]
  | rdBuf0Pix i => exact decode_encoded_window (row := .rdBuf0Pix) (f := .rdBuf0Pix) (by decide) (fun _ => rfl) hwf
  | wrBuf0Pix i v => exact decode_encoded_window (row := .wrBuf0Pix) (f := (.wrBuf0Pix · v)) (by decide) (fun _ => rfl) hwf
  | rdBuf1Pix i => exact decode_encoded_window (row := .rdBuf1Pix) (f := .rdBuf1Pix) (by decide) (fun _ => rfl) hwf
  | wrBuf1Pix i v => exact decode_encoded_window (row := .wrBuf1Pix) (f := (.wrBuf1Pix · v)) (by decide) (fun _ => rfl) hwf
  | rdPalette i => exact decode_encoded_window (row := .rdPalette) (f := .rdPalette) (by decide) (fun _ => rfl) hwf
  | wrRoPalette i v => exact decode_encoded_window (row := .wrRoPalette) (f := (.wrRoPalette · v)) (by decide) (fun _ => rfl) hwf
  | rdClut i => exact decode_encoded_window (row := .rdClut) (f := .rdClut) (by decide) (fun _ => rfl) hwf
  | wrRoClut i v => exact decode_encoded_window (row := .wrRoClut) (f := (.wrRoClut · v)) (by decide) (fun _ => rfl) hwf
  | rdTbuf k j => exact decode_encoded_tbuf (row := .rdTbuf) (f := .rdTbuf) (by decide) (fun _ => rfl) hwf
  | wrRoTbuf k j v => exact decode_encoded_tbuf (row := .wrRoTbuf) (f := (.wrRoTbuf · · v)) (by decide) (fun _ => rfl) hwf
  | _ => rfl

/-- Settles O5: a word is rebuilt from its fields, a key from its row's fixed bits and its index. -/
theorem encodeOfDecodeIsTheWord : Obligations.EncodeOfDecodeIsTheWord := by
  refine ⟨fun w i h => ?_, fun w i h => ?_, fun w i h => ?_, fun key data i h => ?_⟩
  · obtain ⟨hres, rfl⟩ := decode_tw_eq_ok h
    exact congrArg Raw.tw (twWord_fields hres)
  · injection h with h
    exact h ▸ congrArg Raw.len (lenWord_fields w)
  · injection h with h
    exact h ▸ congrArg Raw.pair (pairWord_fields w)
  · obtain ⟨row, hhits, rfl⟩ := decode_bus_eq_ok h
    exact encode_instr_of_hits hhits data

/-- Settles O6: any two rows differ in a bit that both fix. -/
theorem noTwoBusRowsOverlap : Obligations.NoTwoBusRowsOverlap :=
  fun _ _ _ hmem₁ hmem₂ hhits₁ hhits₂ => busTable_hits_unique hmem₂ hmem₁ hhits₂ hhits₁

/-- Settles O3: the decoder evaluated on each word. -/
theorem specWordsDecode : Obligations.SpecWordsDecode :=
  ⟨rfl, rfl, rfl, rfl, rfl, rfl, rfl, rfl, rfl, rfl, rfl, rfl, rfl, rfl, rfl, rfl⟩

/-- Settles O9: the scheduled port serves its oldest request, and an address inside the window is an access at its offset. -/
theorem stepRunsTheBusOperation : Obligations.StepRunsTheBusOperation := by
  intro s m rest rs offset data write i hok hsched hreq halign hin hdec
  have hrun := accessWindow_of_decode halign hin hdec m (({ s with sched := rest } : State).setRequests m rs)
  have hport : ({ s with sched := rest } : State).port m = s.port m := by cases m <;> rfl
  rw [step_of_sched hsched, agentStep_portAgent]
  rcases hreq with hreq | hreq
  · rw [portStep_of_cons (hport ▸ hreq)]
    exact hrun
  · rw [portStep_of_cons (hport ▸ hreq), serveRequest, accessAddress_of_touches (by simpa using touchesWindow_offset hok hin)]
    simpa using hrun

end Sys2Proof.Machine
end

section
/-! PROOFS. The statement about the pixel stream O50: what moves POP's place in its line, what moves DMA_P's, and that each effect of a step
leaves the two and PFIFO in step. -/

namespace Sys2Proof.Machine

/-! ### The pixel stream: which steps move POP's or DMA_P's place in its line -/

theorem lineWordCount_eq : lineWordCount = 321 := rfl

theorem popPosition_pix (c : Nat) : popPosition (.pix c) = 321 - c := rfl

/-- A pair taken moves POP one word on, the last one to the beginning of the next line (R114, R182). -/
theorem popPosition_popPhaseAfterPair {c : Nat} (h1 : 1 ≤ c) (h2 : c ≤ 320) :
    popPosition (popPhaseAfterPair c) % lineWordCount = (popPosition (.pix c) + 1) % lineWordCount := by
  unfold popPhaseAfterPair
  split
  · subst c
    rfl
  · rw [lineWordCount_eq, popPosition_pix, popPosition_pix]
    omega

/-- The pairs left after one more are fewer, and none is left only in Blank. -/
theorem popPhaseAfterPair_bounds {c c' : Nat} (h1 : 1 ≤ c) (h2 : c ≤ bufPairs) (h : popPhaseAfterPair c = .pix c') :
    1 ≤ c' ∧ c' ≤ bufPairs := by
  unfold popPhaseAfterPair at h
  split at h
  · simp at h
  · injection h with h
    omega

/-- The stream is POP's phase, PFIFO and DMA_P: what leaves these leaves it aligned. -/
theorem PixelStreamAligned.of_frame {l : List Field} {s t : State} (h : PixelStreamAligned s) (hf : UnchangedExcept l s t)
    (hl : ∀ f ∈ [Field.popPhase, .pfifo, .dmaP], f ∉ l) : PixelStreamAligned t := by
  have hphase : t.popPhase = s.popPhase := hf .popPhase (hl _ (by simp))
  have hpfifo : t.pfifo = s.pfifo := hf .pfifo (hl _ (by simp))
  have hdmaP : t.dmaP = s.dmaP := hf .dmaP (hl _ (by simp))
  constructor <;> simp only [hphase, hpfifo, hdmaP]
  · exact h.phase
  · exact h.index
  · exact h.count
  · exact h.lenWords

/-- POP changes its phase between two lines: from Wait to Len, from Blank to Wait (R180, R183). -/
theorem PixelStreamAligned.betweenLines {s t : State} (h : PixelStreamAligned s) (hpfifo : t.pfifo = s.pfifo) (hdmaP : t.dmaP = s.dmaP)
    (hpos : popPosition t.popPhase = popPosition s.popPhase) (hphase : ∀ c, t.popPhase ≠ .pix c) : PixelStreamAligned t where
  phase c hc := absurd hc (hphase c)
  index := hdmaP ▸ h.index
  count := by rw [hpos, hpfifo, hdmaP, h.count]
  lenWords := by rw [hpos, hpfifo]; exact h.lenWords

/-- POP takes the oldest word of PFIFO and is one word further in its line (R181, R182). -/
theorem PixelStreamAligned.take {s t : State} {w : Word} {ws : List Word} (h : PixelStreamAligned s) (hhead : s.pfifo = w :: ws)
    (hpfifo : t.pfifo = ws) (hdmaP : t.dmaP = s.dmaP)
    (hpos : popPosition t.popPhase % lineWordCount = (popPosition s.popPhase + 1) % lineWordCount)
    (hphase : ∀ c, t.popPhase = .pix c → 1 ≤ c ∧ c ≤ bufPairs) : PixelStreamAligned t where
  phase := hphase
  index := hdmaP ▸ h.index
  count := by
    have hcount := h.count
    rw [hhead, List.length_cons] at hcount
    rw [hpfifo, hdmaP, ← hcount, Nat.add_mod, hpos, ← Nat.add_mod, Nat.add_assoc, Nat.add_comm 1]
  lenWords i w' hi hbegin := by
    rw [Nat.add_mod, hpos, ← Nat.add_mod, Nat.add_assoc, Nat.add_comm 1] at hbegin
    exact h.lenWords (i + 1) w' (by rw [hhead, List.getElem?_cons_succ, ← hpfifo, hi]) hbegin

/-- Idle, DMA_P is at the end of a line, so it may be armed to begin the next (R203, R205). -/
theorem PixelStreamAligned.armed {s t : State} {b : BufId} (h : PixelStreamAligned s) (hidle : s.dmaP = .idle)
    (hphase : t.popPhase = s.popPhase) (hpfifo : t.pfifo = s.pfifo) (hdmaP : t.dmaP = .active b 0) : PixelStreamAligned t where
  phase := hphase ▸ h.phase
  index b' j hj := by
    injection hdmaP.symm.trans hj with _ hj
    exact hj ▸ Nat.zero_le _
  count := by rw [hphase, hpfifo, h.count, hidle, hdmaP]; rfl
  lenWords := by rw [hphase, hpfifo]; exact h.lenWords

theorem dmaPTransfer_dmaP (b : BufId) (j : Nat) (s : State) :
    (dmaPTransfer b j s).dmaP = if j = bufPairs then .idle else .active b (j + 1) := by
  unfold dmaPTransfer
  split <;> rfl

/-- A transfer moves DMA_P one word on, the last one to the end of its line (R204, R205). -/
theorem dmaPosition_dmaPTransfer (b : BufId) (j : Nat) (s : State) :
    dmaPosition (dmaPTransfer b j s).dmaP % lineWordCount = (j + 1) % lineWordCount := by
  rw [dmaPTransfer_dmaP]
  split
  · subst j
    decide
  · rfl

theorem dmaPTransfer_index_le {b : BufId} {j : Nat} (hj : j ≤ bufPairs) (s : State) {b' : BufId} {j' : Nat}
    (h : (dmaPTransfer b j s).dmaP = .active b' j') : j' ≤ bufPairs := by
  rw [dmaPTransfer_dmaP] at h
  split at h
  · simp at h
  · injection h with _ h
    omega

/-- DMA_P pushes its next word; the word that begins a line is LEN (R54, R204). -/
theorem PixelStreamAligned.push {s : State} {b : BufId} {j : Nat} (h : PixelStreamAligned s) (hactive : s.dmaP = .active b j) :
    PixelStreamAligned (dmaPTransfer b j s) := by
  have hframe := unchangedExcept_dmaPTransfer b j s
  have hphase : (dmaPTransfer b j s).popPhase = s.popPhase := hframe .popPhase (by decide)
  have hj : j ≤ 320 := h.index b j hactive
  have hcount : (popPosition s.popPhase + s.pfifo.length) % lineWordCount = j % lineWordCount := by
    rw [h.count, hactive, dmaPosition]
  refine ⟨hphase ▸ h.phase, fun b' j' => dmaPTransfer_index_le hj s, ?_, fun i w hi hbegin => ?_⟩
  · rw [dmaPosition_dmaPTransfer, hphase, dmaPTransfer_pfifo, List.length_append, List.length_singleton, ← Nat.add_assoc,
      Nat.add_mod, hcount, ← Nat.add_mod]
  · rw [hphase] at hbegin
    rw [dmaPTransfer_pfifo] at hi
    rcases Nat.lt_trichotomy i s.pfifo.length with hlt | rfl | hgt
    · rw [List.getElem?_append_left hlt] at hi
      exact h.lenWords i w hi hbegin
    · have hzero : j = 0 := by
        rw [hcount, lineWordCount_eq] at hbegin
        omega
      subst hzero
      simpa [ScanBuffer.dmaWord] using hi.symm
    · rw [List.getElem?_eq_none (by simp; omega)] at hi
      simp at hi

theorem BlockEffect.pixelStreamAligned {s t : State} (he : BlockEffect s t) (hc : CompletionsExclusive s)
    (h : PixelStreamAligned s) : PixelStreamAligned t := by
  cases he with
  | start hen => exact h.armed (hc.stoppedP hen).1 rfl rfl rfl
  | nothing => exact h
  | fault | mode => exact ⟨h.phase, h.index, h.count, h.lenWords⟩
  | clearFlag b | pixel b => exact h.of_frame (unchangedExcept_setBuf s b _) (by decide)

theorem MasterEffect.pixelStreamAligned {s t : State} (he : MasterEffect s t) (hc : CompletionsExclusive s)
    (h : PixelStreamAligned s) : PixelStreamAligned t := by
  cases he with
  | block he => exact he.pixelStreamAligned hc h
  | memory => exact ⟨h.phase, h.index, h.count, h.lenWords⟩

/-- A step of POP: a change of phase between two lines, or a word taken. -/
theorem AgentEffect.pop_pixelStreamAligned {s t : State} (he : AgentEffect s .pop t) (h : PixelStreamAligned s) :
    PixelStreamAligned t := by
  cases he with
  | stall => exact h
  | popWait hwait =>
    obtain ⟨⟨-, hphase⟩, -⟩ : (s.en = true ∧ s.popPhase = .wait) ∧ s.trig = true := by simpa [popWaitEnabled] using hwait
    exact h.betweenLines rfl rfl (by rw [hphase]; rfl) fun c => PopPhase.noConfusion
  | popBlank hblank =>
    obtain ⟨-, hphase⟩ : s.en = true ∧ s.popPhase = .blank := by simpa [popBlankEnabled] using hblank
    exact h.betweenLines rfl rfl (by rw [hphase]; rfl) fun c => PopPhase.noConfusion
  | len w ws _ hphase hhead =>
    obtain rfl := h.head_of_len hphase hhead
    refine h.take hhead rfl rfl (by rw [hphase]; rfl) fun c hc => ?_
    injection hc with hc
    exact hc ▸ by decide
  | pair c w ws _ hphase hhead =>
    obtain ⟨hpos, hle⟩ := h.phase c hphase
    exact h.take hhead rfl rfl (by rw [hphase]; exact popPosition_popPhaseAfterPair hpos hle)
      fun c' => popPhaseAfterPair_bounds hpos hle
  | bus _ ha | memory _ ha => simp at ha

/-- A step of an agent keeps the stream aligned: DMA_P is armed only while it is idle (R325). -/
theorem AgentEffect.pixelStreamAligned {s t : State} {a : Agent} (he : AgentEffect s a t) (hc : CompletionsExclusive s)
    (h : PixelStreamAligned s) : PixelStreamAligned t := by
  cases a with
  | pop => exact he.pop_pixelStreamAligned h
  | dmaP =>
    rcases he.dmaP_cases with rfl | ⟨b, j, ⟨hactive, -, -⟩, rfl⟩
    · exact h
    · exact h.push hactive
  | seqP =>
    rcases he.seqP_cases with rfl | ⟨⟨hen, hdone⟩, rfl⟩
    · exact h
    · have hframe := unchangedExcept_seqP s
      have hdmaP : (Machine.seqP s).dmaP = .active (bufOfLine (s.cfg.nextPlayoutLine s.mode s.p.toNat)) 0 := by simp [Machine.seqP]
      exact h.armed ((hc.runningP hen).mpr hdone) (hframe .popPhase (by decide)) (hframe .pfifo (by decide)) hdmaP
  | hostBus | prodBus | prodLoop =>
    obtain ⟨u, hu, ht⟩ := he.masterEffect (by decide)
    exact (hu.pixelStreamAligned hc h).of_frame ht.frame (by decide)
  | tg | dmaT | seqT => exact h.of_frame he.frame (by decide)

/-- Settles O50: every effect of the picked agent keeps the stream aligned; the pick changes only the schedule. -/
theorem everyStepKeepsThePixelStream : Obligations.EveryStepKeepsThePixelStream := by
  intro s t hinv haligned h
  obtain ⟨sched, tick, he⟩ := step_effect h
  exact he.pixelStreamAligned (hinv.withSchedule sched tick).completions
    ⟨haligned.phase, haligned.index, haligned.count, haligned.lenWords⟩

end Sys2Proof.Machine
end

section
/-! PROOFS. The statements about the timing generator O11, O12, O13, O24, O25 and O26: the words of a build, the timing lines and their
categories, and when TG and POP stand still. -/

namespace Sys2Proof

/-! ### The timing-buffer build (R151 to R154) -/

/-- Word j of a line: HS active in the sync word only, the trigger in the visible word only. -/
theorem Params.lineWords_get (c : Params) (s : Standard) (v trig : Bool) (j : Slot) :
    (c.lineWords s v trig).get j =
      twWord (if j = .sync then c.hsActive.get s else !c.hsActive.get s) v (trig && decide (j = .vis)) (c.periodField s j) := by
  cases j <;> simp [Params.lineWords]

/-- The line of category k: VS active in SYNC only, the trigger in VISIBLE only. -/
theorem Params.build_get (c : Params) (m : Word) (k : Category) :
    (c.build m).get k =
      c.lineWords (modeStd m) (if k = .sync then c.vsActive.get (modeStd m) else !c.vsActive.get (modeStd m))
        (decide (k = .visible)) := by
  cases k <;> rfl

/-! ### The timing lines (R161, R210) -/

/-- The boundaries of a mode come in the order VIS, FP_END, SYNC_END, BP_END. -/
theorem Params.modeBoundaries (c : Params) (m : Word) : c.vis m ≤ c.fpEnd m ∧ c.fpEnd m ≤ c.syncEnd m ∧ c.syncEnd m ≤ c.bpEnd m :=
  c.boundaries (modeStd m)

/-- A mode the block can hold has a visible line, so it has a line. -/
theorem Params.bpEnd_pos {c : Params} (h : c.ok = true) {m : Word} (hm : c.Selectable m) : 0 < c.bpEnd m := by
  obtain ⟨-, hvis, -⟩ := Params.ok_mode h hm
  obtain ⟨hfp, hsync, hbp⟩ := c.modeBoundaries m
  exact Nat.lt_of_lt_of_le hvis (hfp.trans (hsync.trans hbp))

/-- From a line of the mode, the line advance is the successor modulo BP_END. -/
theorem Params.nextTimingLine_eq_mod {c : Params} {m : Word} {t : Nat} (h : t < c.bpEnd m) :
    c.nextTimingLine m t = (t + 1) % c.bpEnd m := by
  unfold Params.nextTimingLine
  split
  · have hlast : t + 1 = c.bpEnd m := by omega
    rw [hlast, Nat.mod_self]
  · exact (Nat.mod_eq_of_lt (by omega)).symm

theorem Params.category_of_lt_vis {c : Params} {m : Word} {t : Nat} (h : t < c.vis m) : c.category m t = .visible := by
  simp only [Params.category, h, if_true]

theorem Params.category_of_frontPorch {c : Params} {m : Word} {t : Nat} (hlow : c.vis m ≤ t) (hhigh : t < c.fpEnd m) :
    c.category m t = .porch := by
  simp only [Params.category, Nat.not_lt.mpr hlow, hhigh, if_false, if_true]

theorem Params.category_of_sync {c : Params} {m : Word} {t : Nat} (hlow : c.fpEnd m ≤ t) (hhigh : t < c.syncEnd m) :
    c.category m t = .sync := by
  obtain ⟨hfp, -, -⟩ := c.modeBoundaries m
  simp only [Params.category, Nat.not_lt.mpr (hfp.trans hlow), Nat.not_lt.mpr hlow, hhigh, if_false, if_true]

theorem Params.category_of_syncEnd_le {c : Params} {m : Word} {t : Nat} (h : c.syncEnd m ≤ t) : c.category m t = .porch := by
  obtain ⟨hfp, hsync, -⟩ := c.modeBoundaries m
  simp only [Params.category, Nat.not_lt.mpr (hfp.trans (hsync.trans h)), Nat.not_lt.mpr (hsync.trans h), Nat.not_lt.mpr h, if_false]

end Sys2Proof

namespace Sys2Proof.Machine

/-! ### TG stopped, between periods, and stalled (R157 to R159) -/

theorem tgStopped_of_twBad {s : State} {w : Word} (h : FaultRecord.twBad w ∈ s.faults) : tgStopped s = true :=
  List.any_eq_true.mpr ⟨_, h, rfl⟩

theorem not_agentEnabled_tg_of_stopped {s : State} (h : tgStopped s = true) : agentEnabled .tg s = false := by
  simp [agentEnabled, tgPeriodEndEnabled, tgReady, h]

theorem not_agentEnabled_tg_of_empty {s : State} (hcur : s.tgCur = none) (hfifo : s.tfifo = []) : agentEnabled .tg s = false := by
  simp [agentEnabled, tgPeriodEndEnabled, tgReady, hcur, hfifo]

/-- TG stopped, no step of the machine moves the sync pins: only TG drives them. -/
theorem step_sync_of_stopped {s t : State} (hstop : tgStopped s = true) (h : step s = .next t) : t.hs = s.hs ∧ t.vs = s.vs := by
  by_cases hpick : pickedAgent s = .tg
  · have hstop' : tgStopped (afterPick s) = true := by rw [tgStopped, afterPick_faults]; exact hstop
    rw [step, hpick, agentStep_of_not_enabled (not_agentEnabled_tg_of_stopped hstop')] at h
    injection h with h
    subst h
    exact ⟨afterPick_hs s, afterPick_vs s⟩
  · obtain ⟨sched, tick, he⟩ := step_effect h
    exact ⟨by_contra fun hne => hpick (tg_of_writes_sync (.inl (he.mem_writes (f := .hs) hne))),
      by_contra fun hne => hpick (tg_of_writes_sync (.inr (he.mem_writes (f := .vs) hne)))⟩

theorem tgPeriodEndEnabled_iff (s : State) :
    tgPeriodEndEnabled s = true ↔ s.en = true ∧ tgStopped s = false ∧ s.tgCur ≠ none := by
  simp [tgPeriodEndEnabled, and_assoc, Option.isSome_iff_ne_none]

theorem unchangedExcept_tgPeriodEnd (s : State) : UnchangedExcept [.tgCur] s (tgPeriodEnd s) := by
  intro field h
  cases field with
  | tgCur => simp at h
  | mem => exact fun _ => rfl
  | _ => rfl

/-! ### POP stalled (R185) -/

/-- In phase Len or Pix with PFIFO empty, POP is not enabled: the wait and the blank are other phases' steps. -/
theorem not_agentEnabled_pop_of_empty {s : State} (hphase : s.popPhase = .len ∨ ∃ c, s.popPhase = .pix c) (hfifo : s.pfifo = []) :
    agentEnabled .pop s = false := by
  rcases hphase with hphase | ⟨c, hphase⟩ <;>
    simp [agentEnabled, popWaitEnabled, popBlankEnabled, popLenReady, popPairReady, hphase, hfifo]

/-! ### The statements -/

/-- Settles O11: recorded faults are permanent, and TG stopped is not enabled. -/
theorem twBadStopsTheGenerator : Obligations.TwBadStopsTheGenerator := by
  intro s t w hbad
  have hstop := tgStopped_of_twBad hbad
  exact ⟨agentStep_of_not_enabled (not_agentEnabled_tg_of_stopped hstop),
    fun h => ⟨(step_permanent h).faults _ hbad, step_sync_of_stopped hstop h⟩⟩

/-- Settles O24, by induction on the number of advances: each is the successor modulo BP_END. -/
theorem timingLinesCycle : Obligations.TimingLinesCycle := by
  intro c m n hok hm
  induction n with
  | zero => exact (Nat.zero_mod _).symm
  | succ n ih =>
    rw [Function.iterate_succ_apply', ih, Params.nextTimingLine_eq_mod (Nat.mod_lt _ (Params.bpEnd_pos hok hm)), Nat.mod_add_mod]

/-- Settles O26: word j of category k is one TW word, whose fields read back as they were put in. -/
theorem timingBufferFields : Obligations.TimingBufferFields := by
  intro c m k j hok
  simp only [Params.build_get, Params.lineWords_get, twPeriod_twWord, twHs_twWord, twVs_twWord, twTrig_twWord, twReserved_twWord]
  exact ⟨Params.periodField_toNat hok (modeStd m) j, trivial, trivial, (Bool.decide_and _ _).symm, trivial⟩

/-- Settles O12: the period end comes before any other step of TG. -/
theorem periodEndFreesTheGenerator : Obligations.PeriodEndFreesTheGenerator := by
  intro s w hen hstop hcur
  have hend : tgPeriodEndEnabled s = true := (tgPeriodEndEnabled_iff s).mpr ⟨hen, hstop, by simp [hcur]⟩
  have henabled : agentEnabled .tg s = true := by simp only [agentEnabled, hend, Bool.true_or]
  have hstep : agentStep .tg s = .next (tgPeriodEnd s) := if_pos hend
  exact ⟨henabled, _, hstep, rfl, unchangedExcept_tgPeriodEnd s⟩

/-- Settles O13: with an empty FIFO neither unit is enabled, and an agent that is not enabled stalls. -/
theorem emptyFifosStallTheirUnits : Obligations.EmptyFifosStallTheirUnits := fun _ =>
  ⟨fun hcur hfifo => agentStep_of_not_enabled (not_agentEnabled_tg_of_empty hcur hfifo),
    fun hphase hfifo => agentStep_of_not_enabled (not_agentEnabled_pop_of_empty hphase hfifo)⟩

/-- Settles O25: the four ranges of the category function, in the order of the boundaries. -/
theorem categoryByTimingLine : Obligations.CategoryByTimingLine := fun c m _ =>
  ⟨Params.category_of_lt_vis, Params.category_of_frontPorch, Params.category_of_sync, Params.category_of_syncEnd_le,
    c.modeBoundaries m⟩

end Sys2Proof.Machine
end

section
/-! PROOFS. The statements about the pixel output O14, O16 and O17: POP in its wait, PAIR's two pixels and the blank, each with its frame. -/

namespace Sys2Proof.Machine

/-! ### Frames -/

theorem unchangedExcept_popWait (s : State) : UnchangedExcept [.trig, .popPhase] s (popWait s) := by
  intro field h
  cases field with
  | trig | popPhase => simp at h
  | mem => exact fun _ => rfl
  | _ => rfl

/-- What the pins show, OUT and the phase, written together: the blank's fields, and PAIR's but for the word it takes. -/
theorem unchangedExcept_rgb_out_popPhase (s : State) (c : Colour) (es : List OutEvent) (ph : PopPhase) :
    UnchangedExcept [.rgb, .out, .popPhase] s { s with rgb := c, out := es, popPhase := ph } := by
  intro field h
  cases field with
  | rgb | out | popPhase => simp at h
  | mem => exact fun _ => rfl
  | _ => rfl

/-- PAIR writes the pins as the blank does, and takes a word as LEN does. -/
theorem unchangedExcept_pfifo_rgb_out_popPhase (s : State) (ws : List Word) (c : Colour) (es : List OutEvent) (ph : PopPhase) :
    UnchangedExcept [.pfifo, .rgb, .out, .popPhase] s { s with pfifo := ws, rgb := c, out := es, popPhase := ph } :=
  ((unchangedExcept_rgb_out_popPhase s c es ph).trans (unchangedExcept_pfifo_popPhase _ ws ph)).mono (by decide)

/-! ### POP in its wait (R180) -/

theorem agentEnabled_pop_of_wait {s : State} (hen : s.en = true) (hphase : s.popPhase = .wait) (htrig : s.trig = true) :
    agentEnabled .pop s = true := by
  simp [agentEnabled, popWaitEnabled, hen, hphase, htrig]

/-- In phase Wait only the wait could end, and it needs TRIG. -/
theorem not_agentEnabled_pop_of_wait {s : State} (hphase : s.popPhase = .wait) (htrig : s.trig = false) :
    agentEnabled .pop s = false := by
  simp [agentEnabled, popWaitEnabled, popBlankEnabled, popLenReady, popPairReady, hphase, htrig]

/-! ### The statements -/

/-- Settles O14: TRIG decides whether POP is enabled in its wait; enabled, the wait ends, else POP stalls. -/
theorem popWaitsForTheTrigger : Obligations.PopWaitsForTheTrigger := by
  intro s hen hphase
  refine ⟨fun htrig => ?_, fun htrig => ?_⟩
  · exact ⟨agentEnabled_pop_of_wait hen hphase htrig, _, popStep_of_wait hen hphase htrig, rfl, rfl, unchangedExcept_popWait s⟩
  · have hnot := not_agentEnabled_pop_of_wait hphase htrig
    exact ⟨hnot, agentStep_of_not_enabled hnot⟩

/-- Settles O16: the word's fields are the decoder's, and a PAIR that is ready shows both pixels and counts down. -/
theorem pairEmitsTwoPixels : Obligations.PairEmitsTwoPixels := by
  refine ⟨fun w => ⟨pairIgnLo w, pairIgnHi w, rfl⟩, fun s c p0 p1 lo hi hen hphase hfifo => ?_⟩
  have hready := popPairReady_eq_some hen hphase hfifo
  exact ⟨_, exec_pair_of_ready hready p0 lo p1 hi, rfl, rfl, rfl, rfl, unchangedExcept_pfifo_rgb_out_popPhase s _ _ _ _⟩

/-- Settles O17: with EN = 1 the blank is POP's step in phase Blank. -/
theorem blankEndsALine : Obligations.BlankEndsALine := fun s hen hphase =>
  ⟨_, popStep_of_blank hen hphase, rfl, rfl, rfl, unchangedExcept_rgb_out_popPhase s _ _ _⟩

end Sys2Proof.Machine
end

section
/-! PROOFS. The statements about DMA and the sequencer O18 to O23: what the two channels move, the line advances of SEQ_T and SEQ_P, and
that the two advances commute. -/

namespace Sys2Proof

/-! ### The line advances (R210, R212) -/

/-- Past the last visible line the front porch begins, if there is one (R161, R210). -/
theorem Params.nextTimingLine_of_lastVisible {c : Params} {m : Word} {t : Nat} (ht : t + 1 = c.vis m) (hfp : c.vis m < c.fpEnd m) :
    c.nextTimingLine m t = c.vis m := by
  obtain ⟨-, hsync, hbp⟩ := c.modeBoundaries m
  rw [Params.nextTimingLine, ht, if_neg (by omega)]

/-- The next timing line is held in T's 16 bits (R38). -/
theorem Params.nextTimingLine_lt_half {c : Params} (hok : c.ok = true) {m : Word} (hm : c.Selectable m) (t : Nat) :
    c.nextTimingLine m t < 2 ^ 16 := by
  obtain ⟨-, -, hbp, -⟩ := Params.ok_mode hok hm
  unfold Params.nextTimingLine
  split <;> omega

/-- The lines of a mode, the visible ones among them, are numbered in 16 bits (R38, R39). -/
theorem Params.vis_le_half {c : Params} (hok : c.ok = true) {m : Word} (hm : c.Selectable m) : c.vis m ≤ 2 ^ 16 := by
  obtain ⟨-, -, hbp, -⟩ := Params.ok_mode hok hm
  obtain ⟨hfp, hsync, hbpEnd⟩ := c.modeBoundaries m
  omega

theorem Params.nextPlayoutLine_lt_vis {c : Params} (hok : c.ok = true) {m : Word} (hm : c.Selectable m) (p : Nat) :
    c.nextPlayoutLine m p < c.vis m := by
  obtain ⟨-, hvis, -⟩ := Params.ok_mode hok hm
  unfold Params.nextPlayoutLine
  split <;> omega

/-- From a line of the mode, the playout advance is the successor modulo VIS. -/
theorem Params.nextPlayoutLine_eq_mod {c : Params} {m : Word} {p : Nat} (h : p < c.vis m) :
    c.nextPlayoutLine m p = (p + 1) % c.vis m := by
  unfold Params.nextPlayoutLine
  split
  · have hlast : p + 1 = c.vis m := by omega
    rw [hlast, Nat.mod_self]
  · exact (Nat.mod_eq_of_lt (by omega)).symm

/-- VIS being even (R8), the line after p has the other parity, also across the wrap (R217). -/
theorem bufOfLine_succ_mod {n : Nat} (heven : n % 2 = 0) (p : Nat) : bufOfLine ((p + 1) % n) = (bufOfLine p).other := by
  have hparity : (p + 1) % n % 2 = (p + 1) % 2 := Nat.mod_mod_of_dvd _ (Nat.dvd_of_mod_eq_zero heven)
  unfold bufOfLine
  rw [hparity]
  rcases Nat.mod_two_eq_zero_or_one p with hp | hp
  · have hsucc : (p + 1) % 2 = 1 := by omega
    simp [hp, hsucc]
  · have hsucc : (p + 1) % 2 = 0 := by omega
    simp [hp, hsucc]

theorem BufId.other_other (b : BufId) : b.other.other = b := by cases b <;> rfl

end Sys2Proof

namespace Sys2Proof.Machine

/-! ### The DMA channels (R201, R204) -/

theorem agentStep_dmaT_of_room {s : State} {k : Category} {j : Slot} (hen : s.en = true) (hactive : s.dmaT = .active k j)
    (hroom : s.tfifo.length < s.cfg.tfifoDepth) : agentStep .dmaT s = .next (dmaTTransfer k j s) := by
  have hready : dmaTReady s = some (k, j) := by simp [dmaTReady, hactive, hen, hroom]
  simp only [agentStep, dmaTStep, hready]

theorem not_agentEnabled_dmaT_of_full {s : State} (hfull : s.cfg.tfifoDepth ≤ s.tfifo.length) : agentEnabled .dmaT s = false := by
  cases hready : dmaTReady s with
  | none => simp [agentEnabled, hready]
  | some r =>
    obtain ⟨-, -, hroom⟩ := dmaTReady_eq_some hready
    omega

theorem agentStep_dmaP_of_room {s : State} {b : BufId} {j : Nat} (hen : s.en = true) (hactive : s.dmaP = .active b j)
    (hroom : s.pfifo.length < s.cfg.pfifoDepth) : agentStep .dmaP s = .next (dmaPTransfer b j s) := by
  have hready : dmaPReady s = some (b, j) := by simp [dmaPReady, hactive, hen, hroom]
  simp only [agentStep, dmaPStep, hready]

theorem not_agentEnabled_dmaP_of_full {s : State} (hfull : s.cfg.pfifoDepth ≤ s.pfifo.length) : agentEnabled .dmaP s = false := by
  cases hready : dmaPReady s with
  | none => simp [agentEnabled, hready]
  | some r =>
    obtain ⟨-, -, hroom⟩ := dmaPReady_eq_some hready
    omega

theorem ScanBuffer.dmaWord_zero (x : ScanBuffer) : x.dmaWord 0 = 0x13F := rfl

/-- From index 1 on, DMA_P's words are the buffer's pixel words (R204). -/
theorem ScanBuffer.pixel_eq_dmaWord (x : ScanBuffer) {j : Nat} (hpos : 0 < j) (hj : j ≤ bufPairs) :
    x.pixel (j - 1) = some (x.dmaWord j) := by
  have hpixel := x.pixel_of_lt (i := j - 1) (by omega)
  rw [ScanBuffer.dmaWord, if_neg (by omega), hpixel, Option.getD_some]

theorem dmaPTransfer_pDone (b : BufId) (j : Nat) (s : State) :
    (dmaPTransfer b j s).pDone = if j = bufPairs then true else s.pDone := by
  unfold dmaPTransfer
  split <;> rfl

/-! ### SEQ_T (R210) -/

theorem agentStep_seqT_of_enabled {s : State} (h : seqTEnabled s = true) : agentStep .seqT s = .next (seqT s) := if_pos h

theorem seqTEnabled_iff (s : State) : seqTEnabled s = true ↔ s.en = true ∧ s.tDone = true := Bool.and_eq_true_iff

theorem seqT_t (s : State) : (seqT s).t = BitVec.ofNat 16 (s.cfg.nextTimingLine s.mode s.t.toNat) := rfl

theorem seqT_dmaT (s : State) : (seqT s).dmaT = .active (s.cfg.category s.mode (s.cfg.nextTimingLine s.mode s.t.toNat)) .fp := rfl

theorem seqT_t_toNat {s : State} (hok : s.cfg.ok = true) (hm : s.cfg.Selectable s.mode) :
    (seqT s).t.toNat = s.cfg.nextTimingLine s.mode s.t.toNat := by
  rw [seqT_t, BitVec.toNat_ofNat, Nat.mod_eq_of_lt (Params.nextTimingLine_lt_half hok hm _)]

/-- At the last visible line of a mode with a front porch, SEQ_T goes on to the first porch line. -/
theorem seqT_of_lastVisible {s : State} (ht : s.t.toNat + 1 = s.cfg.vis s.mode) (hfp : s.cfg.vis s.mode < s.cfg.fpEnd s.mode) :
    (seqT s).t = BitVec.ofNat 16 (s.cfg.vis s.mode) ∧ (seqT s).dmaT = .active .porch .fp := by
  rw [seqT_t, seqT_dmaT, Params.nextTimingLine_of_lastVisible ht hfp, Params.category_of_frontPorch le_rfl hfp]
  exact ⟨rfl, rfl⟩

/-! ### SEQ_P (R212 to R216) -/

theorem agentStep_seqP_of_enabled {s : State} (h : seqPEnabled s = true) : agentStep .seqP s = .next (seqP s) := if_pos h

theorem seqPEnabled_iff (s : State) : seqPEnabled s = true ↔ s.en = true ∧ s.pDone = true := Bool.and_eq_true_iff

@[simp] theorem seqP_pDone (s : State) : (seqP s).pDone = false := by simp [seqP]

@[simp] theorem seqP_out (s : State) : (seqP s).out = s.out ++ [.event] := by simp [seqP]

theorem seqP_p (s : State) : (seqP s).p = BitVec.ofNat 16 (s.cfg.nextPlayoutLine s.mode s.p.toNat) := by simp [seqP]

theorem seqP_p_toNat {s : State} (hok : s.cfg.ok = true) (hm : s.cfg.Selectable s.mode) :
    (seqP s).p.toNat = s.cfg.nextPlayoutLine s.mode s.p.toNat := by
  have hlt := (Params.nextPlayoutLine_lt_vis hok hm s.p.toNat).trans_le (Params.vis_le_half hok hm)
  rw [seqP_p, BitVec.toNat_ofNat, Nat.mod_eq_of_lt hlt]

theorem seqP_pbuf (s : State) : (seqP s).pbuf = bufOfLine (s.cfg.nextPlayoutLine s.mode s.p.toNat) := by simp [seqP]

theorem seqP_dmaP (s : State) : (seqP s).dmaP = .active (seqP s).pbuf 0 := by simp [seqP]

/-- The flag SEQ_P checks is the one the armed buffer had before the step (R213). -/
theorem seqP_clash (s : State) : (seqP s).clash = clashAfterCheck s.clash (s.buf (seqP s).pbuf).flag := by simp [seqP]

/-- The finished buffer is handed over with the tag of the line after the one now played (R215). -/
theorem seqP_buf_finished (s : State) : (seqP s).buf s.pbuf =
    (s.buf s.pbuf).handOver (BitVec.ofNat 16 ((s.cfg.nextPlayoutLine s.mode s.p.toNat + 1) % s.cfg.vis s.mode)) := by
  cases hp : s.pbuf <;> simp [seqP, State.buf, State.setBuf, hp]

theorem seqP_tag_toNat {s : State} (hok : s.cfg.ok = true) (hm : s.cfg.Selectable s.mode) :
    ((seqP s).buf s.pbuf).line.toNat = ((seqP s).p.toNat + 1) % s.cfg.vis s.mode := by
  obtain ⟨-, hvis, -⟩ := Params.ok_mode hok hm
  have hlt := (Nat.mod_lt (s.cfg.nextPlayoutLine s.mode s.p.toNat + 1) hvis).trans_le (Params.vis_le_half hok hm)
  rw [seqP_buf_finished, ScanBuffer.handOver_line, BitVec.toNat_ofNat, Nat.mod_eq_of_lt hlt, seqP_p_toNat hok hm]

theorem unchangedExcept_record (s : State) (es : List OutEvent) : UnchangedExcept [.out] s (s.record es) := by
  intro field h
  cases field with
  | out => simp at h
  | mem => exact fun _ => rfl
  | _ => rfl

/-- SEQ_P's part before the hand-over: the line advance, the check and the arming. -/
theorem unchangedExcept_playoutAdvance (s : State) (done : Bool) (p : Half) (clash : Word) (b : BufId) :
    UnchangedExcept [.pDone, .p, .clash, .dmaP, .pbuf] s (({ s with pDone := done, p := p, clash := clash } : State).armP b) := by
  intro field h
  cases field with
  | pDone | p | clash | dmaP | pbuf => simp at h
  | mem => exact fun _ => rfl
  | _ => rfl

/-- SEQ_P's frame: of the buffers, only the finished one is written. -/
theorem unchangedExcept_seqP_finished (s : State) :
    UnchangedExcept [.pDone, .p, .clash, .dmaP, .pbuf, .out, bufField s.pbuf] s (seqP s) :=
  (((unchangedExcept_playoutAdvance s _ _ _ _).trans (unchangedExcept_setBuf_bufField _ s.pbuf _)).trans
    (unchangedExcept_record _ _)).mono (by simp)

/-! ### SEQ_T beside SEQ_P (R208) -/

/-- SEQ_T neither reads nor writes a buffer, and each pulse of EVENT is like the other. -/
theorem seqT_record_setBuf (s : State) (b : BufId) (x : ScanBuffer) :
    seqT ((s.setBuf b x).record [.event]) = ((seqT s).setBuf b x).record [.event] := by
  cases b <;> rfl

/-- SEQ_T changes nothing that SEQ_P reads, and the other way round. -/
theorem seqT_seqP (s : State) : seqT (seqP s) = seqP (seqT s) := by
  rw [seqP, seqT_record_setBuf]
  rfl

/-! ### The statements -/

/-- Settles O18: with room the word is pushed, and the slot decides what is next; with a full TFIFO the channel is not enabled. -/
theorem dmaTMovesATimingWord : Obligations.DmaTMovesATimingWord := by
  intro s k j hen hactive
  refine ⟨fun hroom => ⟨_, agentStep_dmaT_of_room hen hactive hroom, dmaTTransfer_tfifo k j s, ?_, ?_, ?_, ?_,
    unchangedExcept_dmaTTransfer k j s⟩, fun hfull => agentStep_of_not_enabled (not_agentEnabled_dmaT_of_full hfull)⟩
  all_goals
    rintro rfl
    exact ⟨rfl, rfl⟩

/-- Settles O19: with room the buffer's word is pushed, the last one completing; with a full PFIFO the channel is not enabled. -/
theorem dmaPMovesABufferWord : Obligations.DmaPMovesABufferWord := by
  intro s b j hen hactive hj
  refine ⟨fun hroom => ⟨_, _, agentStep_dmaP_of_room hen hactive hroom, dmaPTransfer_pfifo b j s, ?_,
    fun hpos => ScanBuffer.pixel_eq_dmaWord _ hpos hj, fun hlast => ?_, fun hlt => ?_, unchangedExcept_dmaPTransfer b j s⟩,
    fun hfull => agentStep_of_not_enabled (not_agentEnabled_dmaP_of_full hfull)⟩
  · rintro rfl
    exact ScanBuffer.dmaWord_zero _
  · rw [dmaPTransfer_dmaP, dmaPTransfer_pDone, if_pos hlast, if_pos hlast]
    exact ⟨rfl, rfl⟩
  · rw [dmaPTransfer_dmaP, dmaPTransfer_pDone, if_neg hlt.ne, if_neg hlt.ne]
    exact ⟨rfl, rfl⟩

/-- Settles O20: T becomes the next timing line, which fits its 16 bits, and DMA_T is armed from that line's category. -/
theorem seqTAdvancesTheTimingLine : Obligations.SeqTAdvancesTheTimingLine := by
  intro s hok hm hen hdone
  have ht := seqT_t_toNat hok hm
  refine ⟨_, agentStep_seqT_of_enabled ((seqTEnabled_iff s).mpr ⟨hen, hdone⟩), rfl, ht, by rw [ht]; rfl, rfl, unchangedExcept_seqT s,
    fun hmode hvis hporch hline => ?_⟩
  have hvis480 : s.cfg.vis s.mode = 480 := by rw [hmode]; exact hvis
  have hfp : s.cfg.fpEnd s.mode = s.cfg.vVis.s0 + s.cfg.vFp.s0 := by rw [hmode]; rfl
  have hlast : s.t.toNat + 1 = s.cfg.vis s.mode := by rw [hline, hvis480]; rfl
  have hnext := seqT_of_lastVisible hlast (by omega)
  rwa [hvis480] at hnext

/-- Settles O21: each clause is what SEQ_P writes in one field; the next buffer is the one P's parity names. -/
theorem seqPHandsTheBuffersOver : Obligations.SeqPHandsTheBuffersOver := by
  intro s hok hm hen hdone
  refine ⟨_, agentStep_seqP_of_enabled ((seqPEnabled_iff s).mpr ⟨hen, hdone⟩), ?_⟩
  have hp := seqP_p_toNat hok hm
  have hnb : (seqP s).pbuf = bufOfLine (seqP s).p.toNat := by rw [seqP_pbuf, hp]
  have hclash := seqP_clash s
  have hdmaP := seqP_dmaP s
  rw [hnb] at hclash hdmaP
  refine ⟨seqP_pDone s, hp, hclash, hdmaP, hnb, seqP_tag_toNat hok hm, ?_, ?_, seqP_out s,
    unchangedExcept_seqP_finished s⟩
  · rw [seqP_buf_finished, ScanBuffer.handOver_flag]
  · rw [seqP_buf_finished, ScanBuffer.handOver_pix]

/-- Settles O22: each step leaves the other enabled, and the two advances commute. -/
theorem sequencerStepsCommute : Obligations.SequencerStepsCommute := by
  intro s hT hP
  have hP' : seqPEnabled (seqT s) = true := hP
  have hT' : seqTEnabled (seqP s) = true := by
    obtain ⟨hen, hdone⟩ := (seqTEnabled_iff s).mp hT
    have hframe := unchangedExcept_seqP s
    exact (seqTEnabled_iff _).mpr ⟨(hframe .en (by decide)).trans hen, (hframe .tDone (by decide)).trans hdone⟩
  calc bindNext (agentStep .seqT s) (agentStep .seqP)
    _ = .next (seqP (seqT s)) := by rw [agentStep_seqT_of_enabled hT, bindNext_next, agentStep_seqP_of_enabled hP']
    _ = .next (seqT (seqP s)) := by rw [seqT_seqP]
    _ = bindNext (agentStep .seqP s) (agentStep .seqT) := by
      rw [agentStep_seqP_of_enabled hP, bindNext_next, agentStep_seqT_of_enabled hT']

/-- Settles O23: P and the tag are each one line further modulo the even VIS, so each advance turns to the other buffer. -/
theorem buffersAlternateByParity : Obligations.BuffersAlternateByParity := by
  intro s t hok hm hlt hpbuf hP hstep
  obtain rfl : seqP s = t := by simpa [agentStep_seqP_of_enabled hP] using hstep
  have hcfg : (seqP s).cfg = s.cfg := unchangedExcept_seqP s .cfg (by decide)
  have hmode : (seqP s).mode = s.mode := unchangedExcept_seqP s .mode (by decide)
  have heven : s.cfg.vis s.mode % 2 = 0 := Params.ok_even hok _
  have hp := seqP_p_toNat hok hm
  have hnext : bufOfLine (seqP s).p.toNat = s.pbuf.other := by
    rw [hp, Params.nextPlayoutLine_eq_mod hlt, bufOfLine_succ_mod heven, hpbuf]
  have hnb : (seqP s).pbuf = bufOfLine (seqP s).p.toNat := by rw [seqP_pbuf, hp]
  rw [hcfg, hmode, seqP_tag_toNat hok hm]
  refine ⟨hp ▸ Params.nextPlayoutLine_lt_vis hok hm _, hnb, hnb.trans hnext, Nat.mod_lt _ (Nat.zero_lt_of_lt hlt), ?_⟩
  rw [bufOfLine_succ_mod heven, hnext, BufId.other_other]

end Sys2Proof.Machine
end

section
/-! PROOFS. The statements about the host interface O28 to O31, O34 to O36, O56 and O57: what each register's read returns, what the three
register writes do, and the steps of a port that serve SET_MODE and WAIT_SCANLINE. -/

namespace Sys2Proof

/-! ### Register values (R116, R123, R125) -/

theorem bitWord_eq_ite (b : Bool) : bitWord b = if b then 1 else 0 := by cases b <;> rfl

theorem ctrlReserved_eq_zero_iff (v : Word) : ctrlReserved v = 0 ↔ v.toNat < 2 := by
  have htoNat : (ctrlReserved v).toNat = v.toNat / 2 := by
    rw [ctrlReserved, BitVec.extractLsb'_toNat, Nat.shiftRight_eq_div_pow]
    omega
  rw [BitVec.toNat_eq, htoNat]
  exact Nat.div_eq_zero_iff_lt (by decide)

/-- Two fields side by side, the low one of eight bits, are a sum. -/
theorem toNat_shiftLeft_eight_or {hi lo : Nat} (hhi : hi < 2 ^ 24) (hlo : lo < 2 ^ 8) :
    ((BitVec.ofNat 32 hi <<< 8) ||| BitVec.ofNat 32 lo).toNat = hi * 256 + lo := by
  rw [BitVec.toNat_or, BitVec.toNat_shiftLeft, BitVec.toNat_ofNat, BitVec.toNat_ofNat, Nat.mod_eq_of_lt (by omega : hi < 2 ^ 32),
    Nat.mod_eq_of_lt (by omega : lo < 2 ^ 32), Nat.shiftLeft_eq, Nat.mod_eq_of_lt (by omega), Nat.mul_comm,
    ← Nat.two_pow_add_eq_or_of_lt hlo]

theorem modeColumns_le (m : Word) : modeColumns m ≤ 80 := by unfold modeColumns; split <;> decide

end Sys2Proof

namespace Sys2Proof.Machine

theorem visLinesRegister_toNat {s : State} (hok : s.cfg.ok = true) (hm : s.cfg.Selectable s.mode) :
    (visLinesRegister s).toNat = s.cfg.vis s.mode := by
  have hvis := Params.vis_le_half hok hm
  rw [visLinesRegister, BitVec.toNat_ofNat, Nat.mod_eq_of_lt (by omega)]

/-- With the default visible lines, VIS_LINES is 480 or 400 by the TIMING bit of MODE. -/
theorem visLinesRegister_of_default {s : State} (h : s.cfg.vVis = { s0 := 480, s1 := 400 }) :
    visLinesRegister s = if s.mode.getLsbD 0 then 400 else 480 := by
  rw [visLinesRegister, Params.vis, modeStd, modeTiming, h]
  split <;> rfl

/-- ROWS is at most 255 and COLS at most 80, so the two fields of TEXT_DIMS do not overlap (R125, R248). -/
theorem textDimsRegister_toNat {s : State} (hok : s.cfg.ok = true) (hm : s.cfg.Selectable s.mode) :
    (textDimsRegister s).toNat = s.cfg.rows s.mode * 256 + modeColumns s.mode ∧ (textDimsRegister s).toNat < 2 ^ 16 := by
  obtain ⟨-, -, -, hrows, -⟩ := Params.ok_mode hok hm
  have hcols := modeColumns_le s.mode
  rw [textDimsRegister, toNat_shiftLeft_eight_or (by omega) (by omega)]
  exact ⟨rfl, by omega⟩

/-! ### The register writes (R242, R244, R251) -/

/-- A mode taken: MODE and, with it, its build (R242). -/
def State.withMode (s : State) (v : Word) : State := { s with mode := v, tbuf := s.cfg.build v }

theorem execWrMode_of_accepted {s : State} {v : Word} (h : v ∈ s.cfg.acceptedModes) : execWrMode v s = .next (s.withMode v) := if_pos h

theorem execWrMode_of_not_accepted {s : State} {v : Word} (h : v ∉ s.cfg.acceptedModes) : execWrMode v s = .next s := if_neg h

theorem execWrCtrl_of_reserved {v : Word} (h : 2 ≤ v.toNat) (s : State) : execWrCtrl v s = raiseFault (.ctrlReserved v) s :=
  if_pos fun hzero => Nat.not_lt.mpr h ((ctrlReserved_eq_zero_iff v).mp hzero)

theorem execWrCtrl_zero (s : State) : execWrCtrl 0 s = .next s := rfl

theorem execWrCtrl_one_of_stopped {s : State} (hen : s.en = false) : execWrCtrl 1 s = .next (startBlock s) := by
  rw [execWrCtrl, hen]
  rfl

theorem execWrCtrl_one_of_running {s : State} (hen : s.en = true) : execWrCtrl 1 s = .next s := by
  rw [execWrCtrl, hen]
  rfl

theorem State.setBuf_buf_self (s : State) (b : BufId) : s.setBuf b (s.buf b) = s := by cases b <;> rfl

theorem ScanBuffer.clearFlag_of_clear {x : ScanBuffer} (h : x.flag = false) : x.clearFlag = x := by
  rw [ScanBuffer.clearFlag, ← h]

/-- The release clears the buffer's flag and nothing else (R251). -/
theorem writeBufFlag_zero (b : BufId) (s : State) :
    ∃ t, writeBufFlag b 0 s = .next t ∧ (t.buf b).flag = false ∧ (t.buf b).line = (s.buf b).line ∧ (t.buf b).pix = (s.buf b).pix ∧
      UnchangedExcept [bufField b] s t ∧ ((s.buf b).flag = false → t = s) := by
  refine ⟨s.setBuf b (s.buf b).clearFlag, rfl, ?_, ?_, ?_, unchangedExcept_setBuf_bufField s b _, fun hclear => ?_⟩
  · rw [State.buf_setBuf_self, ScanBuffer.clearFlag_flag]
  · rw [State.buf_setBuf_self, ScanBuffer.clearFlag_line]
  · rw [State.buf_setBuf_self, ScanBuffer.clearFlag_pix]
  · rw [ScanBuffer.clearFlag_of_clear hclear, State.setBuf_buf_self]

theorem writeBufFlag_of_ne_zero {v : Word} (h : v ≠ 0) (b : BufId) (s : State) :
    writeBufFlag b v s = raiseFault (.flagSet s.master b v) s := if_pos h

/-! ### A port that serves its requests (R262, R263) -/

theorem State.port_setRequests_self (s : State) (m : Master) (rs : List Request) :
    (s.setRequests m rs).port m = { s.port m with requests := rs } := State.port_setPort_self _ _ _

theorem State.port_setModeSet_self (s : State) (m : Master) (b : Bool) :
    (s.setModeSet m b).port m = { s.port m with modeSet := some b } := State.port_setPort_self _ _ _

theorem State.port_withMode (s : State) (v : Word) (m : Master) : (s.withMode v).port m = s.port m := by cases m <;> rfl

theorem State.port_master (s : State) (m m' : Master) : ({ s with master := m } : State).port m' = s.port m' := by cases m' <;> rfl

theorem unchangedExcept_master (s : State) (m : Master) : UnchangedExcept [.master] s { s with master := m } := by
  intro f hf
  cases f with
  | master => simp at hf
  | mem => exact fun _ => rfl
  | _ => rfl

/-- v returned to bus master m, whose operation is the one executed (assumption 18). -/
def State.replyTo (s : State) (m : Master) (v : Word) : State := ({ s with master := m } : State).reply v

theorem State.port_replyTo_self (s : State) (m : Master) (v : Word) :
    (s.replyTo m v).port m = { s.port m with readData := some v } := by
  have hreply := State.port_reply_self { s with master := m } v
  rwa [State.port_master] at hreply

theorem unchangedExcept_replyTo (s : State) (m : Master) (v : Word) : UnchangedExcept [portField m, .master] s (s.replyTo m v) :=
  ((unchangedExcept_master s m).trans (unchangedExcept_reply_portField { s with master := m } v)).mono (by simp)

/-- The first step of SET_MODE writes MODE and leaves the reading back to be done (R242, R263). -/
theorem portStep_setMode {s : State} {x : Master} {m : Word} {rs : List Request} (h : (s.port x).requests = .setMode m :: rs) :
    ∃ u, portStep x s = .next u ∧ (u.port x).requests = .checkMode m :: rs ∧ u.faults = s.faults ∧
      (m ∈ s.cfg.acceptedModes → u.mode = m ∧ u.tbuf = s.cfg.build m) ∧
      (m ∉ s.cfg.acceptedModes → u.mode = s.mode ∧ u.tbuf = s.tbuf) := by
  rw [portStep_of_cons h, serveRequest, accessWindow_wrMode]
  set r := s.setRequests x (.checkMode m :: rs) with hr
  have hreq : (({ r with master := x } : State).port x).requests = .checkMode m :: rs := by
    rw [State.port_master, hr, State.port_setRequests_self]
  have hcfg : r.cfg = s.cfg := State.setRequests_cfg s x _
  have hfaults : r.faults = s.faults := State.setRequests_faults s x _
  by_cases hm : m ∈ s.cfg.acceptedModes
  · have hexec : execWrMode m { r with master := x } = .next (({ r with master := x } : State).withMode m) :=
      execWrMode_of_accepted (hcfg ▸ hm)
    refine ⟨_, hexec, ?_, hfaults, fun _ => ⟨rfl, congrArg (Params.build · m) hcfg⟩, fun hnot => absurd hm hnot⟩
    rw [State.port_withMode, hreq]
  · have hexec : execWrMode m { r with master := x } = .next { r with master := x } := execWrMode_of_not_accepted (hcfg ▸ hm)
    exact ⟨_, hexec, hreq, hfaults, fun hin => absurd hin hm,
      fun _ => ⟨State.setRequests_mode s x _, State.setRequests_tbuf s x _⟩⟩

/-- The second step of SET_MODE reads MODE back and compares it (R241, R263). -/
theorem portStep_checkMode {s : State} {x : Master} {m : Word} {rs : List Request} (h : (s.port x).requests = .checkMode m :: rs) :
    ∃ t, portStep x s = .next t ∧ (t.port x).requests = rs ∧ (t.port x).modeSet = some (decide (s.mode = m)) ∧
      UnchangedExcept [portField x, .master] s t := by
  have hread := State.port_replyTo_self (s.setRequests x rs) x s.mode
  have hstep : portStep x s =
      .next (((s.setRequests x rs).replyTo x s.mode).setModeSet x (decide (s.mode = m))) := by
    have hexec : execRdMode { s.setRequests x rs with master := x } = .next ((s.setRequests x rs).replyTo x s.mode) := by
      rw [← State.setRequests_mode s x rs]
      rfl
    rw [portStep_of_cons h, serveRequest, accessWindow_rdMode, hexec, bindNext_next, hread]
    simp only [Option.some.injEq]
  refine ⟨_, hstep, ?_, ?_, ?_⟩
  · rw [State.port_setModeSet_self, hread, State.port_setRequests_self]
  · rw [State.port_setModeSet_self]
  · exact (((unchangedExcept_setPort s x _).trans (unchangedExcept_replyTo _ x s.mode)).trans (unchangedExcept_setPort _ x _)).mono
      (by simp)

/-- WAIT_SCANLINE fixes its target (R262). -/
theorem portStep_waitScanline {s : State} {x : Master} {n : Word} {rs : List Request}
    (h : (s.port x).requests = .waitScanline n :: rs) :
    portStep x s = .next (s.setRequests x (.spinScanline (scanlineTarget s n) :: rs)) := portStep_of_cons h

theorem scanlineTarget_toNat (s : State) (n : Word) : (scanlineTarget s n).toNat = min n.toNat (s.cfg.vis s.mode - 1) := by
  rw [scanlineTarget, BitVec.toNat_ofNat, Nat.mod_eq_of_lt ((min_le_left _ _).trans_lt n.isLt)]

theorem scanlineRegister_toNat (s : State) : (scanlineRegister s).toNat = s.p.toNat := BitVec.toNat_setWidth_of_le (by decide)

/-- A read of SCANLINE that returns the target ends the wait (R246, R262). -/
theorem portStep_spinScanline {s : State} {x : Master} {target : Word} {rs : List Request}
    (h : (s.port x).requests = .spinScanline target :: rs) :
    ∃ t, portStep x s = .next t ∧ (t.port x).readData = some (scanlineRegister s) ∧
      (t.port x).requests = (if s.p.toNat = target.toNat then rs else .spinScanline target :: rs) ∧
      UnchangedExcept [portField x, .master] s t := by
  have hread := State.port_replyTo_self s x (scanlineRegister s)
  have hframe := unchangedExcept_replyTo s x (scanlineRegister s)
  have hstep : portStep x s =
      .next (if s.p.toNat = target.toNat then (s.replyTo x (scanlineRegister s)).setRequests x rs
        else s.replyTo x (scanlineRegister s)) := by
    have hexec : execRdScanline { s with master := x } = .next (s.replyTo x (scanlineRegister s)) := rfl
    rw [portStep_of_cons h, serveRequest, accessWindow_rdScanline, hexec, bindNext_next, hread]
    simp only [Option.some.injEq, BitVec.toNat_eq, scanlineRegister_toNat]
  by_cases hline : s.p.toNat = target.toNat
  · rw [if_pos hline] at hstep
    refine ⟨_, hstep, ?_, ?_, (hframe.trans (unchangedExcept_setPort _ x _)).mono (by simp)⟩
    · rw [State.port_setRequests_self, hread]
    · rw [State.port_setRequests_self, if_pos hline]
  · rw [if_neg hline] at hstep
    refine ⟨_, hstep, by rw [hread], ?_, hframe⟩
    rw [hread, if_neg hline, h]

/-! ### The statements -/

/-- Settles O56: the mode that the second step reads back is the one the first step left. -/
theorem setModeReportsItsSuccess : Obligations.SetModeReportsItsSuccess := by
  intro s x m rs hreq
  obtain ⟨u, hwrite, hpending, hfaults, htaken, hkept⟩ := portStep_setMode hreq
  obtain ⟨t, hcheck, hdone, hreport, hframe⟩ := portStep_checkMode hpending
  have hmode : t.mode = u.mode := hframe .mode (by cases x <;> decide)
  have htbuf : t.tbuf = u.tbuf := hframe .tbuf (by cases x <;> decide)
  have hfaults' : t.faults = u.faults := hframe .faults (by cases x <;> decide)
  refine ⟨t, by rw [hwrite, bindNext_next, hcheck], hdone, hfaults'.trans hfaults, fun hm => ?_, fun hm => ?_⟩
  · obtain ⟨hm', hb⟩ := htaken hm
    exact ⟨hmode.trans hm', htbuf.trans hb, by rw [hreport, hm', decide_eq_true rfl]⟩
  · obtain ⟨hm', hb⟩ := hkept hm
    exact ⟨hmode.trans hm', htbuf.trans hb, by rw [hreport, hm']⟩

/-- Settles O57: one step fixes the target, each further one is a read of SCANLINE. -/
theorem waitScanlineEndsAtItsLine : Obligations.WaitScanlineEndsAtItsLine := by
  refine ⟨fun s x n rs hreq => ?_, fun s x target rs hreq => ?_⟩
  · have hpending := congrArg Port.requests (State.port_setRequests_self s x (.spinScanline (scanlineTarget s n) :: rs))
    obtain ⟨t, hread, -, hdone, hframe⟩ := portStep_spinScanline hpending
    rw [State.setRequests_p] at hdone
    exact ⟨t, _, by rw [portStep_waitScanline hreq, bindNext_next, hread], scanlineTarget_toNat s n, hdone,
      ((unchangedExcept_setPort s x _).trans hframe).mono (by simp)⟩
  · obtain ⟨t, hread, hdata, hdone, hframe⟩ := portStep_spinScanline hreq
    exact ⟨t, _, hread, hdata, scanlineRegister_toNat s, hdone, hframe⟩

/-- Settles O30: the reads' values, and what an accepted configuration bounds them by. -/
theorem geometryReads : Obligations.GeometryReads := by
  refine ⟨rfl, rfl, rfl, rfl, fun s => ⟨⟨_, returns_readValue rfl rfl s, visLinesRegister_of_default, visLinesRegister_toNat⟩,
    ⟨_, returns_readValue rfl rfl s, textDimsRegister_toNat⟩, returns_readValue rfl rfl s, fun hok hnull => ?_,
    returns_readValue rfl rfl s⟩⟩
  exact (Params.ok_grid hok).1 (congrArg BitVec.toNat hnull)

/-- Settles O28: each is the value of its read. -/
theorem modeAndControlReads : Obligations.ModeAndControlReads := by
  refine ⟨rfl, rfl, fun s => ⟨returns_readValue rfl rfl s, ?_⟩, returns_readValue rfl rfl State.reset⟩
  rw [← bitWord_eq_ite]
  exact returns_readValue rfl rfl s

/-- Settles O29: a line number keeps its value in the wider register. -/
theorem counterReads : Obligations.CounterReads :=
  ⟨rfl, rfl, rfl, fun s => ⟨⟨_, returns_readValue rfl rfl s, BitVec.toNat_setWidth_of_le (by decide)⟩,
    ⟨_, returns_readValue rfl rfl s, scanlineRegister_toNat s⟩, returns_readValue rfl rfl s⟩⟩

/-- Settles O31: each is the value of its read. -/
theorem bufferRegisterReads : Obligations.BufferRegisterReads := by
  refine ⟨rfl, rfl, rfl, rfl, rfl, rfl, fun s => ⟨?_, ?_, ⟨_, returns_readValue rfl rfl s, ?_⟩, ⟨_, returns_readValue rfl rfl s, ?_⟩,
    returns_readValue rfl rfl s, returns_readValue rfl rfl s⟩⟩
  · rw [← bitWord_eq_ite]; exact returns_readValue rfl rfl s
  · rw [← bitWord_eq_ite]; exact returns_readValue rfl rfl s
  · exact BitVec.toNat_setWidth_of_le (by decide)
  · exact BitVec.toNat_setWidth_of_le (by decide)

/-- Settles O34: taking a mode twice is taking it once. -/
theorem modeWriteAcceptsOrChangesNothing : Obligations.ModeWriteAcceptsOrChangesNothing :=
  ⟨fun _ => rfl, fun s v => ⟨fun hv => ⟨s.withMode v, execWrMode_of_accepted hv, rfl, rfl, unchangedExcept_mode_tbuf s v _,
    execWrMode_of_accepted (s := s.withMode v) hv⟩, execWrMode_of_not_accepted⟩⟩

/-- Settles O35: a reserved bit is a value of 2 or more, and EN is set by the first 1. -/
theorem controlWriteStartsTheBlock : Obligations.ControlWriteStartsTheBlock := by
  refine ⟨fun _ => rfl, fun s v => ⟨?_, ?_, fun hv => raises_of_exec (execWrCtrl_of_reserved hv s)⟩⟩
  · rintro rfl hen
    exact ⟨_, execWrCtrl_one_of_stopped hen, rfl, rfl, rfl, rfl, unchangedExcept_startBlock s⟩
  · rintro (rfl | ⟨rfl, hen⟩)
    · exact execWrCtrl_zero s
    · exact execWrCtrl_one_of_running hen

/-- Settles O36: both buffers by the one write. -/
theorem flagWriteReleasesTheBuffer : Obligations.FlagWriteReleasesTheBuffer :=
  ⟨fun _ => ⟨rfl, rfl⟩, fun s => ⟨writeBufFlag_zero .buf0 s, writeBufFlag_zero .buf1 s, fun _ hv =>
    ⟨raises_of_exec (writeBufFlag_of_ne_zero hv .buf0 s), raises_of_exec (writeBufFlag_of_ne_zero hv .buf1 s)⟩⟩⟩

end Sys2Proof.Machine
end

section
/-! PROOFS. The statements about PROD's data and its loop O27, O53 and O54: what an entry of the CLUT is, and the steps of the loop that
take a buffer, read its tag and MODE, and release it. -/

namespace Sys2Proof

/-! ### The CLUT (R117, R119, R120, R290) -/

theorem clutIndex_toNat (a : BitVec 7) (p : BitVec 2) : (clutIndex a p).toNat = 4 * a.toNat + p.toNat := by
  rw [clutIndex, BitVec.toNat_append, ← Nat.shiftLeft_add_eq_or_of_lt p.isLt, Nat.shiftLeft_eq, Nat.mul_comm]

/-- Bits 15:12 of a colour pair are 0. -/
theorem pairIgnLo_colourPair (c0 c1 : Colour) : pairIgnLo (colourPair c0 c1) = 0 := by
  refine BitVec.eq_of_getLsbD_eq fun j hj => ?_
  simp [pairIgnLo, colourPair, hj, show 12 + j < 16 by omega]

/-- Bits 31:28 of a colour pair are 0. -/
theorem pairIgnHi_colourPair (c0 c1 : Colour) : pairIgnHi (colourPair c0 c1) = 0 := by
  refine BitVec.eq_of_getLsbD_eq fun j hj => ?_
  simp [pairIgnHi, colourPair, hj, BitVec.getLsbD_of_ge c0 (28 + j) (by omega),
    BitVec.getLsbD_of_ge c1 (28 + j - 16) (by omega)]

theorem attrFg_toNat (a : BitVec 7) : (attrFg a).toNat = a.toNat % 16 := by
  rw [attrFg, BitVec.extractLsb'_toNat, Nat.shiftRight_zero]

theorem attrBg_toNat (a : BitVec 7) : (attrBg a).toNat = a.toNat / 16 := by
  rw [attrBg, BitVec.extractLsb'_toNat, Nat.shiftRight_eq_div_pow]
  omega

theorem pixelColour_eq (palette : Vector Colour 256) (a : BitVec 7) (set : Bool) :
    pixelColour palette a set = if set then colourAt palette (a.toNat % 16) else colourAt palette (a.toNat / 16) := by
  rw [pixelColour, attrFg_toNat, attrBg_toNat]

/-- A pixel's colour is one of the first sixteen: FG has four bits, BG three (R119). -/
theorem pixelColour_congr {p₁ p₂ : Vector Colour 256} (h : ∀ n, n < 16 → colourAt p₁ n = colourAt p₂ n) (a : BitVec 7) (set : Bool) :
    pixelColour p₁ a set = pixelColour p₂ a set := by
  rw [pixelColour, pixelColour, h _ (attrFg a).isLt, h _ ((attrBg a).isLt.trans (by decide))]

theorem clutEntry_congr {p₁ p₂ : Vector Colour 256} (h : ∀ n, n < 16 → colourAt p₁ n = colourAt p₂ n) (a : BitVec 7) (p : BitVec 2) :
    clutEntry p₁ a p = clutEntry p₂ a p := by
  rw [clutEntry, clutEntry, pixelColour_congr h, pixelColour_congr h]

theorem buildClut_congr {p₁ p₂ : Vector Colour 256} (h : ∀ n, n < 16 → colourAt p₁ n = colourAt p₂ n) :
    buildClut p₁ = buildClut p₂ := by
  simp only [buildClut, clutEntry_congr h]

end Sys2Proof

namespace Sys2Proof.Machine

/-- Settles O27: an entry is the pair of its pixels' colours, and those are among the first sixteen of the palette. -/
theorem clutEntriesArePaletteColours : Obligations.ClutEntriesArePaletteColours := by
  refine ⟨fun palette a p => ?_, fun _ _ h => buildClut_congr h⟩
  rw [clutAt_buildClut, clutEntry]
  refine ⟨clutIndex_toNat a p, ?_, ?_, pairIgnLo_colourPair _ _, pairIgnHi_colourPair _ _⟩
  · exact (colourPair_left _ _).trans (pixelColour_eq palette a _)
  · exact (colourPair_right _ _).trans (pixelColour_eq palette a _)

/-! ### The steps around a render (R291 to R293, R295, R299) -/

theorem bitWord_eq_one_iff (b : Bool) : bitWord b = 1 ↔ b = true := by cases b <;> decide

theorem prodLoopStep_acquire {s : State} {b : BufId} (h : s.prod = .acquire b) :
    prodLoopStep s = .next (s.prodReads (flagRegister s b) (if (s.buf b).flag then .readLine b else .acquire b)) := by
  have hread : ((asProd s).reply (flagRegister s b)).prodRead = bitWord (s.buf b).flag := rfl
  have hflag : flagRegister (asProd s) b = flagRegister s b := by rw [flagRegister, State.buf_asProd, flagRegister]
  rw [prodLoopStep, h]
  simp only [prodAcquire, readBufFlag, bindNext_next, hflag, hread, bitWord_eq_one_iff]
  rfl

theorem prodLoopStep_readLine {s : State} {b : BufId} (h : s.prod = .readLine b) :
    prodLoopStep s = .next (s.prodReads (lineRegister s b) (.readMode b (s.buf b).line)) := by
  have hread : ((asProd s).reply (lineRegister s b)).prodRead = (s.buf b).line.setWidth 32 := rfl
  have hline : lineRegister (asProd s) b = lineRegister s b := by rw [lineRegister, State.buf_asProd, lineRegister]
  rw [prodLoopStep, h]
  simp only [prodReadLine, readBufLine, bindNext_next, hline, hread]
  rw [BitVec.setWidth_setWidth_of_le _ (by decide), BitVec.setWidth_eq]
  rfl

/-- The release clears the flag of the buffer, keeps its pixels and tag, and turns to the other buffer. -/
theorem prodLoopStep_release {s : State} {b : BufId} (h : s.prod = .release b) :
    ∃ t, prodLoopStep s = .next t ∧ t.prod = .acquire b.other ∧ (t.buf b).flag = false ∧
      (t.buf b).pix = (s.buf b).pix ∧ (t.buf b).line = (s.buf b).line ∧ UnchangedExcept [.prod, .master, bufField b] s t := by
  obtain ⟨t, hwrite, hflag, hline, hpix, hframe, -⟩ := writeBufFlag_zero b (asProd s)
  rw [State.buf_asProd] at hline hpix
  refine ⟨t.prodAt (.acquire b.other), ?_, rfl, ?_, ?_, ?_,
    (((unchangedExcept_asProd s).trans hframe).trans (unchangedExcept_prodAt t _)).mono (by simp)⟩
  · rw [prodLoopStep, h]
    exact congrArg (bindNext · _) hwrite
  · rwa [State.buf_prodAt]
  · rwa [State.buf_prodAt]
  · rwa [State.buf_prodAt]

/-- Settles O53: the two reads change PROD's side only, and the release is the write of the flag. -/
theorem producerWaitsForItsFlag : Obligations.ProducerWaitsForItsFlag := fun s _ =>
  ⟨fun h => ⟨_, prodLoopStep_acquire h, rfl, unchangedExcept_prodReads s _ _⟩,
    fun h => ⟨_, prodLoopStep_readLine h, rfl, unchangedExcept_prodReads s _ _⟩,
    prodLoopStep_release⟩

/-- Settles O54: where the render begins is decided by the text row, which is the tag divided by the font height. -/
theorem rowsPastTheLastAreNotRendered : Obligations.RowsPastTheLastAreNotRendered := by
  intro s _ line h
  refine ⟨_, prodLoopStep_readMode h, unchangedExcept_prodReads s _ _, fun hpast => ?_, fun hrow => ?_⟩
  · rw [State.prodReads_prod, renderStart, textRow_eq_div, if_pos hpast]
  · rw [State.prodReads_prod, renderStart, textRow_eq_div, if_neg (Nat.not_le.mpr hrow)]

end Sys2Proof.Machine
end

section
/-! PROOFS. The statement about the exceptions O39: the register offset that a bus key stands for, and the fault that each check of an
access raises. -/

namespace Sys2Proof

/-! ### The offset of a key (R126) -/

/-- The window offset of a key's word: the key without bits 1:0. -/
def keyOffset (key : Half) : Word := (key.extractLsb' 2 14).setWidth 32 <<< 2

theorem keyOffset_toNat (key : Half) : (keyOffset key).toNat = 4 * (key.toNat / 4) := by
  rw [keyOffset, setWidth_shiftLeft_two, BitVec.toNat_ofNat, BitVec.extractLsb'_toNat, Nat.shiftRight_eq_div_pow]
  omega

/-- W, bit 0 of a key, is none of the bits that hold the offset. -/
theorem extractLsb'_busKey (offset : Word) (write : Bool) : (busKey offset write).extractLsb' 2 14 = offset.extractLsb' 2 14 := by
  refine BitVec.eq_of_getLsbD_eq fun j hj => ?_
  simp [busKey, hj, show 2 + j < 16 by omega, show ¬ 2 + j < 2 by omega]

/-- A word-aligned offset inside the window is the offset of its key. -/
theorem keyOffset_busKey {offset : Word} (halign : offset.toNat % 4 = 0) (hin : offset.toNat < 0x10000) (write : Bool) :
    keyOffset (busKey offset write) = offset := by
  refine BitVec.eq_of_toNat_eq ?_
  rw [keyOffset, extractLsb'_busKey, setWidth_shiftLeft_two, BitVec.toNat_ofNat, BitVec.extractLsb'_toNat, Nat.shiftRight_eq_div_pow]
  omega

/-- The offset of entry i of a window is that of the window's first word and 4*i (R86). -/
theorem keyOffset_windowKey {n : Nat} (hn : n ≤ 14) {base : Half} (hbase : base &&& windowMask n = base)
    (hend : base.toNat + 4 * 2 ^ n ≤ 2 ^ 16) (i : BitVec n) :
    keyOffset (windowKey base (i.setWidth 16)) = keyOffset base + (i.setWidth 32 <<< 2) := by
  have hi := i.isLt
  refine BitVec.eq_of_toNat_eq ?_
  rw [windowKey_eq_add hn hbase, setWidth_shiftLeft_two, BitVec.toNat_add, keyOffset_toNat, keyOffset_toNat, BitVec.toNat_add,
    BitVec.toNat_ofNat, BitVec.toNat_ofNat]
  omega

/-- The decoder gives well-formed instructions only (R87). -/
theorem decode_bus_wellFormed {key : Half} {data : Word} {i : Instr} (h : decode (.bus key data) = .ok i) : i.wellFormed = true := by
  simp only [decode, decodeBus] at h
  split at h
  · simp at h
  · split at h
    · rename_i hwf
      injection h with h
      exact h ▸ hwf
    · simp at h

end Sys2Proof

namespace Sys2Proof.Machine

theorem keyOffset_tbufKey (k j : BitVec 2) : keyOffset (tbufKey 0x5001 k j) = tbufOffset k j := by
  revert k j; decide

/-! ### Each check of an access (R240, R323) -/

theorem accessWindow_of_unmapped {offset data : Word} {write : Bool} (halign : offset.toNat % 4 = 0)
    (h : 0x10000 ≤ offset.toNat ∨ ∃ e, decode (.bus (busKey offset write) data) = .error e) (m : Master) (s : State) :
    accessWindow m offset .word write data s = raiseFault (.unmapped m offset write) s := by
  rw [accessWindow, if_neg (by simp [halign])]
  by_cases hin : 0x10000 ≤ offset.toNat
  · exact if_pos hin
  · obtain ⟨e, he⟩ := h.resolve_left hin
    rw [if_neg hin, he]

/-- A write to a read-only register raises RO_WRITE with the offset of the key that names the register (R261). -/
theorem exec_readOnlyWrite {i : Instr} (hro : isReadOnlyWrite i = true) (hwf : i.wellFormed = true) {key : Half} {v : Word}
    (hkey : encode i = .bus key v) (s : State) : exec i s = raiseFault (.roWrite s.master (keyOffset key)) s := by
  cases i with
  | wrRoPalette i | wrRoClut i =>
    injection hkey with hkey
    rw [← hkey, keyOffset_windowKey (by decide) (by decide) (by decide) i]
    rfl
  | wrRoTbuf k j =>
    injection hkey with hkey
    obtain ⟨c, hc⟩ := Option.isSome_iff_exists.mp (categoryOfIndex_isSome k hwf)
    rw [← hkey, keyOffset_tbufKey]
    simp only [exec, execWrRoTbuf, hc, writeReadOnly]
  | wrRoScanline | wrRoTimingLine | wrRoVisLines | wrRoTextDims | wrRoFbAddr | wrRoClash | wrRoNeedsMemory | wrRoBuf0Line
  | wrRoBuf0Len | wrRoBuf1Line | wrRoBuf1Len =>
    injection hkey with hkey
    rw [← hkey]
    rfl
  | _ => exact absurd hro Bool.false_ne_true

/-- Inside the window the fault of a write to a read-only register names the access's own offset. -/
theorem raises_roWrite_of_decode {offset data : Word} {write : Bool} {i : Instr} (halign : offset.toNat % 4 = 0)
    (hin : offset.toNat < 0x10000) (hdec : decode (.bus (busKey offset write) data) = .ok i) (hro : isReadOnlyWrite i = true)
    (s : State) : Raises i s (.roWrite s.master offset) := by
  obtain ⟨-, -, -, hencode⟩ := encodeOfDecodeIsTheWord
  refine raises_of_exec ?_
  rw [exec_readOnlyWrite hro (decode_bus_wellFormed hdec) (hencode _ _ _ hdec), keyOffset_busKey halign hin]

/-! ### The statement -/

/-- Settles O39: the checks stand in R323's order, and what passes them runs as the instruction its key decodes to. -/
theorem busChecksComeInOrder : Obligations.BusChecksComeInOrder := by
  intro m offset data width write s
  refine ⟨fun h => ⟨_, accessWindow_of_not_aligned h m write data s, raised_recordFault _ s⟩, ?_⟩
  rintro rfl halign
  refine ⟨fun h => ⟨_, accessWindow_of_unmapped halign h m s, raised_recordFault _ s⟩, fun i hin hdec =>
    ⟨accessWindow_of_decode halign hin hdec m s, fun hro => raises_roWrite_of_decode halign hin hdec hro _, ?_, ?_, ?_⟩⟩
  · rintro rfl hv
    exact raises_of_exec (writeBufFlag_of_ne_zero hv .buf0 _)
  · rintro rfl hv
    exact raises_of_exec (writeBufFlag_of_ne_zero hv .buf1 _)
  · rintro rfl hv
    exact raises_of_exec (execWrCtrl_of_reserved hv _)

end Sys2Proof.Machine
end

section
/-! PROOFS. The statement about reset and hazards O52: when TG and DMA_T are enabled, and that a full TFIFO leaves TG a word. -/

namespace Sys2Proof.Machine

/-! ### When TG and DMA_T are enabled (R156, R157, R201) -/

/-- With a word in TFIFO, TG is enabled: it ends its period, or takes the word. -/
theorem agentEnabled_tg_of_word {s : State} (hen : s.en = true) (hstop : tgStopped s = false) (hfifo : s.tfifo ≠ []) :
    agentEnabled .tg s = true := by
  refine Bool.or_eq_true_iff.mpr ?_
  by_cases hcur : s.tgCur = none
  · exact .inr ((tgReady_iff s).mpr ⟨hen, hstop, hcur, hfifo⟩)
  · exact .inl ((tgPeriodEndEnabled_iff s).mpr ⟨hen, hstop, hcur⟩)

theorem agentEnabled_dmaT_of_room {s : State} {k : Category} {j : Slot} (hen : s.en = true) (hactive : s.dmaT = .active k j)
    (hroom : s.tfifo.length < s.cfg.tfifoDepth) : agentEnabled .dmaT s = true := by
  simp [agentEnabled, dmaTReady, hactive, hen, hroom]

/-- TFIFO has a depth of at least 1 (R8), so a full one holds a word. -/
theorem tfifo_ne_nil_of_full {s : State} (hok : s.cfg.ok = true) (hfull : s.cfg.tfifoDepth ≤ s.tfifo.length) : s.tfifo ≠ [] := by
  obtain ⟨hdepth, -, -⟩ := Params.ok_fifos hok
  exact List.ne_nil_of_length_pos (hdepth.trans hfull)

/-! ### The statement -/

/-- Settles O52: DMA_T idle, its completion is pending for SEQ_T; active, it has room in TFIFO or the full TFIFO gives TG a word. -/
theorem timingNeverDeadlocks : Obligations.TimingNeverDeadlocks := by
  intro s hinv hen
  cases hdma : s.dmaT with
  | idle =>
    have hdone : s.tDone = true := (hinv.completions.runningT hen).mp hdma
    exact .inr (.inr ((seqTEnabled_iff s).mpr ⟨hen, hdone⟩))
  | active k j =>
    rcases Nat.lt_or_ge s.tfifo.length s.cfg.tfifoDepth with hroom | hfull
    · exact .inr (.inl (agentEnabled_dmaT_of_room hen hdma hroom))
    · exact .inl (agentEnabled_tg_of_word hen hinv.words.notStopped (tfifo_ne_nil_of_full hinv.cfg hfull))

end Sys2Proof.Machine
end
